-- ==== Sys2Proof/Word.lean ====
section
/-! DEFINITION. The names of the Morjal 640's things: bytes of a frame, the numbered tables' indices, positions,
ports and levels (00_scope.md, "References").

An index counts from 0; the number the manual prints is the index plus 1 for bays, slots, classes, programs and
ports, and the index itself for record references, residue groups, field lines and probe channels. -/

namespace Sys2Proof

/-- One byte of a station-port frame. -/
abbrev Byte := BitVec 8

/-- Bay 1 to 4, as index 0 to 3. -/
abbrev Bay := Fin 4

/-- Tanker slot 1 to 12, as index 0 to 11 (R1). -/
abbrev Slot := Fin 12

/-- Record reference 0 to 63 (R2). -/
abbrev RecordRef := Fin 64

/-- Cargo class 1 to 48, as index 0 to 47 (R21). -/
abbrev ClassNo := Fin 48

/-- Wash program 1 to 16, as index 0 to 15 (R28). -/
abbrev ProgramNo := Fin 16

/-- Residue group 0 to 11 (R25). -/
abbrev Group := Fin 12

/-- Field line 0 to 15 (R147). -/
abbrev Line := Fin 16

/-- Probe channel 0 to 5 (R101). -/
abbrev Probe := Fin 6

/-- A conversion code, 0 to 1023 (R102). -/
abbrev Code := Fin 1024

/-- The five places a tanker can be bound; also the five flow meters, one a position (R12, R107). -/
inductive Position where
  | bay (b : Bay)
  | rack
deriving DecidableEq, Repr, Inhabited

/-- The six station ports: 1 to 4 the bays, 5 the rack, 6 the office. The port decides the sender's role. -/
inductive Port where
  | bay (b : Bay)
  | rack
  | office
deriving DecidableEq, Repr, Inhabited

/-- A sampled level of a pulse input or a field line (R107, R147). -/
inductive Level where
  | low
  | high
deriving DecidableEq, Repr, Inhabited

/-- A set of field lines, one flag for each of lines 0 to 15. -/
abbrev LineSet := Vector Bool 16

/-- A set of record references, one flag for each of 0 to 63. -/
abbrev RefSet := Vector Bool 64

/-- A set of ports, one flag for each of ports 1 to 6. -/
abbrev PortSet := Vector Bool 6

end Sys2Proof
end

