-- ==== Sys2Proof/Syntax.lean ====
section
/-! DEFINITION. The commands: one constructor for each row of spec/opcode_table.json.

The first 37 are the requests of the catalogue (10_station_ports_and_requests.md, 10.6). Each stands for one COMPLETE
request frame of its kind at port `p`, with its tag and its body bytes as sent; the body's bytes are the operands, in
the order the request's entry lists them. The other 26 are the part's own events, and what reaches it from the field
wiring, the wires of the ports, the clock and the supplies. -/

namespace Sys2Proof

/-- A command of the Morjal 640. -/
inductive Instr where
  /-- STATUS (R166), body empty. -/
  | status (p : Port) (tag : Byte) (body : List Byte)
  /-- EVENTS (R159), body empty. -/
  | events (p : Port) (tag : Byte) (body : List Byte)
  /-- ACK-LINE (R160), body: line. -/
  | ackLine (p : Port) (tag : Byte) (body : List Byte)
  /-- RESUME (R152), body: from the office the position 1 to 5, else empty. -/
  | resume (p : Port) (tag : Byte) (body : List Byte)
  /-- READ-TANKER (R17), body: from the office the slot, else empty. -/
  | readTanker (p : Port) (tag : Byte) (body : List Byte)
  /-- READ-COMPARTMENT (R18), body: from the office slot and number, else number. -/
  | readCompartment (p : Port) (tag : Byte) (body : List Byte)
  /-- ADMIT (R9, R10), body: token, count, then per compartment capacity, history length, classes. -/
  | admitTanker (p : Port) (tag : Byte) (body : List Byte)
  /-- DEPART (R11), body: slot. -/
  | depart (p : Port) (tag : Byte) (body : List Byte)
  /-- SET-INTENT (R37), body: slot, number, class. -/
  | setIntent (p : Port) (tag : Byte) (body : List Byte)
  /-- EMPTIED (R144), body: slot, number. -/
  | emptied (p : Port) (tag : Byte) (body : List Byte)
  /-- VOID-RELEASE (R127), body: slot, number. -/
  | voidRelease (p : Port) (tag : Byte) (body : List Byte)
  /-- CANCEL-WASH (R57), body: slot, number. -/
  | cancelWash (p : Port) (tag : Byte) (body : List Byte)
  /-- READ-LOOP (R81), body empty. -/
  | readLoop (p : Port) (tag : Byte) (body : List Byte)
  /-- READ-INSTRUMENTS (R117), body empty. -/
  | readInstruments (p : Port) (tag : Byte) (body : List Byte)
  /-- DOCK (R13), body: token. -/
  | dock (p : Port) (tag : Byte) (body : List Byte)
  /-- UNDOCK (R14, R15), body empty. -/
  | undock (p : Port) (tag : Byte) (body : List Byte)
  /-- START-WASH (R45, R46), body: number. -/
  | startWash (p : Port) (tag : Byte) (body : List Byte)
  /-- PHASE-GO (R52), body: number. -/
  | phaseGo (p : Port) (tag : Byte) (body : List Byte)
  /-- ABORT-WASH (R56), body: number. -/
  | abortWash (p : Port) (tag : Byte) (body : List Byte)
  /-- INSPECT-PASS (R120, R121), body: number, inspector code in two bytes. -/
  | inspectPass (p : Port) (tag : Byte) (body : List Byte)
  /-- INSPECT-FAIL (R122, R123), body: number, upgrade flag. -/
  | inspectFail (p : Port) (tag : Byte) (body : List Byte)
  /-- FILL-START (R133, R134), body: number, class, preset in two bytes. -/
  | fillStart (p : Port) (tag : Byte) (body : List Byte)
  /-- FILL-END (R139, R140), body: number, reported litres in two bytes. -/
  | fillEnd (p : Port) (tag : Byte) (body : List Byte)
  /-- FILL-ABORT (R141, R142), body: number. -/
  | fillAbort (p : Port) (tag : Byte) (body : List Byte)
  /-- WRITE-CLASS (R22), body: class, grade code, group, program. -/
  | writeClass (p : Port) (tag : Byte) (body : List Byte)
  /-- WRITE-PROGRAM (R29, R30), body: program, phase count, 18 bytes a phase. -/
  | writeProgram (p : Port) (tag : Byte) (body : List Byte)
  /-- WRITE-FOLLOW (R26), body: from-group, twelve cell codes. -/
  | writeFollow (p : Port) (tag : Byte) (body : List Byte)
  /-- WRITE-ROUTE (R154, R155), body: line, mask, polarity, trigger, action, bay, notify set, filter. -/
  | writeRoute (p : Port) (tag : Byte) (body : List Byte)
  /-- WRITE-SETTING (R175), body: setting number, value in two bytes. -/
  | writeSetting (p : Port) (tag : Byte) (body : List Byte)
  /-- READ-CLASS (R24), body: class. -/
  | readClass (p : Port) (tag : Byte) (body : List Byte)
  /-- READ-PROGRAM (R31), body: program. -/
  | readProgram (p : Port) (tag : Byte) (body : List Byte)
  /-- READ-FOLLOW (R27), body: from-group. -/
  | readFollow (p : Port) (tag : Byte) (body : List Byte)
  /-- READ-ROUTE (R156), body: line. -/
  | readRoute (p : Port) (tag : Byte) (body : List Byte)
  /-- READ-SETTING (R176), body: item number. -/
  | readSetting (p : Port) (tag : Byte) (body : List Byte)
  /-- SET-CLOCK (R128), body: reading in four bytes. -/
  | setClock (p : Port) (tag : Byte) (body : List Byte)
  /-- OPEN-YARD (R173), body empty. -/
  | openYard (p : Port) (tag : Byte) (body : List Byte)
  /-- YARD-RESET (R171), body empty. -/
  | yardReset (p : Port) (tag : Byte) (body : List Byte)
  /-- The reset of R170 takes effect after the YARD-RESET answer. -/
  | yardResetEffect
  /-- Power-up with an invalid integrity marker (R169). -/
  | coldStart
  /-- Power-up with a valid integrity marker (R170). -/
  | powerReturn
  /-- Main power goes (R168). -/
  | mainPowerLoss
  /-- Port `p` receives byte `b`, with a framing error or without (R162). -/
  | requestByteReceived (p : Port) (b : Byte) (framingError : Bool)
  /-- More than 20 ms pass at port `p` since the last byte (R162). -/
  | interByteTimeout (p : Port)
  /-- The last byte of port `p`'s answer leaves (R163). -/
  | answerSendComplete (p : Port)
  /-- A conversion of channel `ch` completes with `code` (R103). -/
  | scanConversion (ch : Probe) (code : Code)
  /-- The meter of a position is sampled (R107). -/
  | pulseSample (meter : Position) (level : Level)
  /-- A field line is sampled (R147). -/
  | lineSample (line : Line) (level : Level)
  /-- The grant the scan picks reaches the yard table (R73). -/
  | grant
  /-- The accounting-interval timer of a bay runs out (R92). -/
  | accountingIntervalClose (b : Bay)
  /-- The phase running time of a bay's compartment advances (R42). -/
  | phaseTimerTick (b : Bay)
  /-- The phase timer of a bay expires (R54). -/
  | phaseTimerExpiry (b : Bay)
  /-- The handover timer of a bay expires (R53). -/
  | handoverTimerExpiry (b : Bay)
  /-- The re-entry timer of a bay expires (R59). -/
  | reEntryTimerExpiry (b : Bay)
  /-- The hold timer of a bay expires (R61). -/
  | holdTimerExpiry (b : Bay)
  /-- A bay's wash unit's hold reaches the yard table (R60). -/
  | washHold (b : Bay)
  /-- A bay's wash unit's resume reaches the yard table (R62). -/
  | washResume (b : Bay)
  /-- The rack fill unit's STOPPED update reaches the yard table (R137). -/
  | fillStoppedMark
  /-- A bay's sweep tick timer runs out (R113). -/
  | sweepTick (b : Bay)
  /-- The release timer makes a check (R125). -/
  | releaseTimerCheck
  /-- A lapse the release timer sent reaches the yard table (R126). -/
  | releaseLapse (r : RecordRef)
  /-- A second of the yard clock passes (R172). -/
  | yardClockSecond
  /-- The backup supply fails or is disconnected (R169). -/
  | backupSupplyLoss
  /-- A millisecond of the sample ages passes (R101, R88). -/
  | ageMillisecond
deriving DecidableEq, Repr

end Sys2Proof
end

