-- ==== Sys2Proof/Decode.lean ====
section
/-! DEFINITION. The command a word of spec/opcode_table.json spells. The table gives no row of this part any bits
("fields" is empty in every row and no row has "fixed"), so no word spells a command. How a request frame's bytes are
read is in Machine/Ports.lean (R162, R165). -/

namespace Sys2Proof

/-- The command of a word of the table: none, since no row has bits. -/
def decodeTableWord (_nbits _w : Nat) : Option Instr := none

end Sys2Proof
end

