-- ==== Sys2Proof/Machine/Types.lean ====
section
/-! DEFINITION. The records the part holds: the yard table's (chapter 1), the cargo rules' (chapter 2), the wash
units' and the arbiter's (chapters 3 to 5), the instruments' (chapter 6), the line monitor's and the notice store's
(chapter 9), and the station ports' (chapter 10). Quantities are whole numbers (00_scope.md, "Quantities and
units"); the ranges the manual gives them are kept by the operations and proved as invariants. -/

namespace Sys2Proof.Machine

/-! ## Cargo rules -/

/-- The grade of a class (R21). -/
inductive Grade where
  | food
  | feed
  | technical
deriving DecidableEq, Repr, Inhabited

/-- A class definition (R21). -/
structure ClassDef where
  grade : Grade
  group : Group
  program : ProgramNo
deriving DecidableEq, Repr, Inhabited

/-- A cell of the follow matrix (R25); `noWash` is the manual's NONE. -/
inductive Cell where
  | noWash
  | wash
  | deep
  | barred
deriving DecidableEq, Repr, Inhabited

/-- What a phase does (R28). -/
inductive PhaseKind where
  | preRinse
  | detergent
  | hotRinse
  | finalRinse
deriving DecidableEq, Repr, Inhabited

/-- How a phase's dose is measured (R28). -/
inductive Basis where
  | thermal
  | volume
deriving DecidableEq, Repr, Inhabited

/-- The conductivity test of a phase: limit L in µS/cm and qualifying number N (R28). -/
structure Endpoint where
  limit : Nat
  qualifying : Nat
deriving DecidableEq, Repr, Inhabited

/-- A phase record of a program (R28). -/
structure Phase where
  kind : PhaseKind
  basis : Basis
  demandQ : Nat
  floor : Nat
  shares : Nat
  maxDuration : Nat
  endpoint : Option Endpoint
  sweepLow : Nat
  sweepHigh : Nat
  sweepStep : Nat
deriving DecidableEq, Repr, Inhabited

/-! ## Compartment records -/

/-- The nine states of a compartment (R4). -/
inductive CState where
  | dirty
  | queued
  | running
  | handover
  | held
  | washed
  | released
  | filling
  | laden
deriving DecidableEq, Repr, Inhabited

/-- The notes (R6). -/
inductive Note where
  | aborted
  | cancelled
  | phaseTimeout
  | handoverTimeout
  | reEntryTimeout
  | holdExpired
  | inspectFailed
  | lapsed
  | voided
  | powerLost
  | probeFault
deriving DecidableEq, Repr, Inhabited

/-- A compartment's demand, and the kind a wash summary records (R4, R5); `noWash` is the manual's NONE. -/
inductive Demand where
  | noWash
  | wash
  | deep
deriving DecidableEq, Repr, Inhabited

/-- The marks of the current phase (R5, R99, R69). -/
structure PhaseMarks where
  clamped : Bool
  stale : Bool
  overrange : Bool
  probe : Bool
deriving DecidableEq, Repr, Inhabited

/-- The progress part (R5). `heldFrom` and `heldSince` are present in HELD only. -/
structure Progress where
  phaseIndex : Nat
  dose : Nat
  remainder : Nat
  runningTime : Nat
  endpointCount : Nat
  sharesHeld : Nat
  phaseDoses : List Nat
  marks : PhaseMarks
  heldFrom : Option CState
  queuedSince : Nat
  heldSince : Option Nat
deriving DecidableEq, Repr, Inhabited

/-- The wash summary (R5, R50). -/
structure WashSummary where
  kind : Demand
  phaseDoses : List Nat
  finalConductivity : Option Nat
deriving DecidableEq, Repr, Inhabited

/-- The release part (R118). -/
structure Release where
  certificate : Nat
  releasedFor : ClassNo
  stamp : Nat
  deadline : Nat
  inspector : Nat
deriving DecidableEq, Repr, Inhabited

/-- The marks of a fill (R132). -/
structure FillMarks where
  clamped : Bool
  presetReached : Bool
  overfill : Bool
  stopped : Bool
  mismatch : Bool
  interrupted : Bool
  aborted : Bool
deriving DecidableEq, Repr, Inhabited

/-- The fill part (R132): preset in litres, counted in decilitres, reported in litres. -/
structure Fill where
  cargo : ClassNo
  preset : Nat
  counted : Nat
  reported : Option Nat
  marks : FillMarks
deriving DecidableEq, Repr, Inhabited

/-- A compartment record in use (R4). -/
structure Compartment where
  number : Nat
  capacity : Nat
  state : CState
  history : List ClassNo
  note : Option Note
  intent : Option ClassNo
  demand : Option Demand
  program : Option ProgramNo
  progress : Option Progress
  summary : Option WashSummary
  release : Option Release
  fill : Option Fill
deriving DecidableEq, Repr, Inhabited

/-- A tanker record (R1): the token's characters as the bytes the frame carries, the arrival stamp, the record
references in compartment-number order (their number is the compartment count), and the binding. -/
structure Tanker where
  token : List Byte
  arrival : Nat
  compartments : List RecordRef
  binding : Option Position
deriving DecidableEq, Repr, Inhabited

/-! ## Field lines -/

/-- The active level of a line (R148). -/
inductive Polarity where
  | activeLow
  | activeHigh
deriving DecidableEq, Repr, Inhabited

/-- Whether an acknowledged line that is still active is put back (R148, R160). -/
inductive Trigger where
  | edge
  | level
deriving DecidableEq, Repr, Inhabited

/-- What a line does when it becomes active (R148, R149). -/
inductive Action where
  | note
  | holdBay (b : Bay)
  | holdAll
  | stopRack
  | blockGrants
deriving DecidableEq, Repr, Inhabited

/-- A route entry (R148). -/
structure Route where
  masked : Bool
  polarity : Polarity
  trigger : Trigger
  action : Action
  notify : PortSet
  filterN : Nat
deriving DecidableEq, Repr, Inhabited

/-- A glitch filter (R107, R147): the accepted level and the run count. -/
structure Filter where
  accepted : Level
  run : Nat
deriving DecidableEq, Repr, Inhabited

/-- A hold set (R151): lines, and for the rack the cause OVERFILL. -/
structure HoldSet where
  lines : LineSet
  overfill : Bool
deriving DecidableEq, Repr, Inhabited

/-- What the notice store holds for a port (R157). -/
structure Notice where
  pendingLines : LineSet
  changed : RefSet
  attention : Bool
deriving DecidableEq, Repr, Inhabited

/-! ## Wash units, arbiter, instruments, rack -/

/-- The supply temperature a wash unit holds, with its age in milliseconds (R83, R88). -/
structure Supply where
  value : Nat
  age : Nat
deriving DecidableEq, Repr, Inhabited

/-- A bay wash unit (R42, R83). A handover, re-entry or hold timer is stopped (`none`) or runs with the length it was
started with, in seconds (R44). The phase timer's count is the running time in the progress part; here stands whether
it runs. The interval meter constant is unset (`none`) until an interval begins (R100). The endpoint counter writes
the compartment's endpoint count (R42, R64). -/
structure WashUnit where
  active : Option RecordRef
  phaseTimer : Bool
  intervalTimer : Bool
  handoverTimer : Option Nat
  reEntryTimer : Option Nat
  holdTimer : Option Nat
  intervalCount : Nat
  intervalK : Option Nat
  supply : Option Supply
  lastSample : Option Nat
  endpointCounter : Nat
deriving DecidableEq, Repr, Inhabited

/-- An entry of the grant queue (R68). -/
structure QueueEntry where
  bay : Bay
  ref : RecordRef
  shares : Nat
  clamped : Bool
  passCount : Nat
deriving DecidableEq, Repr, Inhabited

/-- The arbiter (R66). The BLOCK-GRANTS cause is set while its line set is non-empty (R78). `sent` is the model's own:
the grant request that a decision has made in the step of its event and that has not yet reached the yard table (R71,
R73), by the record it names. -/
structure Arbiter where
  capacity : Nat
  granted : Nat
  queue : List QueueEntry
  lowPressure : Bool
  blockLines : LineSet
  recovery : Bool
  sent : Option RecordRef
deriving DecidableEq, Repr, Inhabited

/-- A sample slot of the scan converter (R101). -/
structure SampleSlot where
  code : Option Code
  faulty : Bool
  lastGood : Option Nat
  age : Nat
deriving DecidableEq, Repr, Inhabited

/-- A pulse channel: its filter and its commissioning total (R107, R108). -/
structure PulseChannel where
  filter : Filter
  total : Nat
deriving DecidableEq, Repr, Inhabited

/-- The direction of a sweep (R111). -/
inductive Direction where
  | up
  | down
deriving DecidableEq, Repr, Inhabited

/-- A running sweep generator (R111). -/
structure Sweep where
  position : Nat
  direction : Direction
deriving DecidableEq, Repr, Inhabited

/-- The setpoint outputs of a bay (R111); the generator is stopped (`none`) or running, and its tick timer runs exactly
while it does (R112, R114). -/
structure BayOutputs where
  valve : Nat
  sweep : Nat
  generator : Option Sweep
deriving DecidableEq, Repr, Inhabited

/-- The rack fill unit (R132). `stopDue` is the model's own: the STOPPED update the unit has sent and that has not yet
reached the yard table (R137); at most one is on its way (DESIGN CHOICE, log entry 9). -/
structure FillUnit where
  active : Option RecordRef
  stopDue : Bool
deriving DecidableEq, Repr, Inhabited

/-! ## Station ports -/

/-- A complete request frame without its sync, length and check (10.6). -/
structure Frame where
  kind : Byte
  tag : Byte
  body : List Byte
deriving DecidableEq, Repr, Inhabited

/-- The answer codes (10.3). -/
inductive AnswerCode where
  | ok
  | format
  | role
  | recovery
  | unbound
  | noTanker
  | noCompartment
  | state
  | busy
  | barred
  | cargoClass
  | full
  | duplicate
  | range
  | held
  | lapsed
deriving DecidableEq, Repr, Inhabited

/-- An answer being sent (R164). -/
structure Answer where
  kind : Byte
  tag : Byte
  code : AnswerCode
  body : List Byte
deriving DecidableEq, Repr, Inhabited

/-- A port's receiver (R162): hunting, or in a frame with the bytes taken after the sync byte, oldest first. -/
inductive Receiver where
  | hunting
  | inFrame (got : List Byte)
deriving DecidableEq, Repr, Inhabited

/-- A station port (R162, R163, R166). -/
structure PortState where
  receiver : Receiver
  holding : Option Frame
  sending : Option Answer
  discards : Nat
deriving DecidableEq, Repr, Inhabited

/-- Where a taken YARD-RESET stands (R167, R171): none, its answer being sent, or its answer sent and the reset step
still to be made. -/
inductive ResetStage where
  | idle
  | answering
  | due
deriving DecidableEq, Repr, Inhabited

/-- The yard mode (R170, R173). -/
inductive YardMode where
  | recovery
  | opened
deriving DecidableEq, Repr, Inhabited

/-! ## The two domains -/

/-- The retained domain (R168), settings 1 to 25 at indices 0 to 24. -/
structure Retained where
  classes : Vector (Option ClassDef) 48
  follow : Vector (Vector Cell 12) 12
  programs : Vector (List Phase) 16
  routes : Vector Route 16
  settings : Vector Nat 25
  clock : Nat
  certificate : Nat
  tankers : Vector (Option Tanker) 12
  pool : Vector (Option Compartment) 64
  freeList : List RecordRef
  bindings : Vector (Option Slot) 5
  markerValid : Bool
deriving DecidableEq, Repr, Inhabited

/-- The active domain (R168). `scanNext` is the channel the converter converts next (R101); `lapsesDue` is the model's
own: the lapses the release timer has sent and that have not yet reached the yard table (R125, R126). -/
structure Active where
  mode : YardMode
  arbiter : Arbiter
  units : Vector WashUnit 4
  slots : Vector SampleSlot 6
  scanNext : Probe
  pulses : Vector PulseChannel 5
  outputs : Vector BayOutputs 4
  lines : Vector Filter 16
  holds : Vector HoldSet 5
  notices : Vector Notice 6
  fillUnit : FillUnit
  releaseTimer : Bool
  lapsesDue : RefSet
  ports : Vector PortState 6
  yardReset : ResetStage
deriving DecidableEq, Repr, Inhabited

end Sys2Proof.Machine
end

