-- ==== Sys2Proof/Config.lean ====
section
/-! DEFINITION. The free values: what the manual leaves open and the part goes on with. Each is a constant without a
body, so that nothing in Lean can prove a value of it. The meanings apply each to `State.freeCount`, the model's own
counter, which the step that uses one advances. -/

namespace Sys2Proof.Config

/-- The bay byte READ-ROUTE sends for an entry whose action is not HOLD-BAY: R154 has WRITE-ROUTE send a byte there
and check nothing of it, R148 gives the entry no bay, and R156 states no value. Log entry 3. -/
opaque routeBayByte : Nat → Byte

/-- The retained domain after its contents are lost (R169): the manual gives the lost contents no value. Log entry 4. -/
opaque lostRetained : Nat → Machine.Retained

/-- The active domain after main power has gone (R168): what R116, R157 and R167 do not give is lost. Log entry 4. -/
opaque lostActive : Nat → Machine.Active

end Sys2Proof.Config
end

