-- ==== Sys2Proof/Machine/Bytes.lean ====
section
/-! DEFINITION. Byte order and the check of a frame (10.1, 10.6): numbers of more than one byte are sent most
significant byte first. -/

namespace Sys2Proof.Machine

/-- A number of one byte. -/
def byte1 (n : Nat) : List Byte := [BitVec.ofNat 8 n]

/-- A number of two bytes, most significant first. -/
def byte2 (n : Nat) : List Byte := [BitVec.ofNat 8 (n / 256), BitVec.ofNat 8 n]

/-- A number of three bytes, most significant first. -/
def byte3 (n : Nat) : List Byte := [BitVec.ofNat 8 (n / 65536), BitVec.ofNat 8 (n / 256), BitVec.ofNat 8 n]

/-- A number of four bytes, most significant first. -/
def byte4 (n : Nat) : List Byte :=
  [BitVec.ofNat 8 (n / 16777216), BitVec.ofNat 8 (n / 65536), BitVec.ofNat 8 (n / 256), BitVec.ofNat 8 n]

/-- The number sent in some bytes, most significant first. -/
def number (bs : List Byte) : Nat := bs.foldl (fun n b => 256 * n + b.toNat) 0

/-- A Boolean sent as one byte, 0 or 1. -/
def byteFlag (b : Bool) : List Byte := byte1 b.toNat

/-- One bit of the check: shift left, and take off the polynomial 0x1021 when a one leaves (R162). -/
def crcBit (crc : BitVec 16) : BitVec 16 :=
  if crc.msb then (crc <<< 1) ^^^ 0x1021#16 else crc <<< 1

/-- One byte of the check, most significant bit first (R162). -/
def crcByte (crc : BitVec 16) (b : Byte) : BitVec 16 :=
  crcBit (crcBit (crcBit (crcBit (crcBit (crcBit (crcBit (crcBit
    (crc ^^^ (b.setWidth 16 <<< 8)))))))))

/-- The check of some bytes: the 16-bit CRC with initial value 0xFFFF and no final inversion (R162). -/
def crc16 (bs : List Byte) : BitVec 16 := bs.foldl crcByte 0xFFFF#16

/-- The sync byte of a request frame (10.6). -/
def requestSync : Byte := 0x3C#8

/-- The sync byte of an answer frame (10.6). -/
def answerSync : Byte := 0x3D#8

/-- The bytes of a request frame from the length to the end of the body. -/
def Frame.inner (f : Frame) : List Byte := byte1 f.body.length ++ [f.kind, f.tag] ++ f.body

/-- The bytes of a request frame on the wire (10.6). -/
def Frame.wire (f : Frame) : List Byte := [requestSync] ++ f.inner ++ byte2 (crc16 f.inner).toNat

end Sys2Proof.Machine
end

