-- ==== Sys2Proof/Machine/Tables.lean ====
section
/-! DEFINITION. Indices of the tables, and sets held as one flag a member. -/

namespace Sys2Proof

/-- The place of a position in the tables of five: bays 1 to 4, then the rack. -/
def Position.index : Position → Fin 5
  | .bay b => ⟨b.val, by omega⟩
  | .rack => 4

/-- The place of a port in the tables of six: ports 1 to 6. -/
def Port.index : Port → Fin 6
  | .bay b => ⟨b.val, by omega⟩
  | .rack => 4
  | .office => 5

/-- The port of a position: ports 1 to 4 belong to bays 1 to 4, port 5 to the rack. -/
def Position.port : Position → Port
  | .bay b => .bay b
  | .rack => .rack

/-- The position of a port; the office has none. -/
def Port.position : Port → Option Position
  | .bay b => some (.bay b)
  | .rack => some .rack
  | .office => none

/-- The code of a position in READ-TANKER and RESUME bodies: 1 to 4 for the bays, 5 for the rack. -/
def Position.number (p : Position) : Nat := p.index.val + 1

namespace Machine

/-- Apply a function to every entry of a table. -/
def mapTable {α β : Type} {n : Nat} (f : α → β) (v : Vector α n) : Vector β n :=
  ⟨⟨v.toList.map f⟩, by simp⟩

/-- The set with no member. -/
def noneOf (n : Nat) : Vector Bool n := Vector.replicate n false

/-- Whether a set has a member. -/
def anyOf {n : Nat} (v : Vector Bool n) : Bool := v.toList.any id

/-- How many members a set has. -/
def countOf {n : Nat} (v : Vector Bool n) : Nat := v.toList.count true

/-- The members common to two sets. -/
def bothOf {n : Nat} (v w : Vector Bool n) : Vector Bool n :=
  ⟨⟨List.zipWith (· && ·) v.toList w.toList⟩, by simp⟩

/-- The members of a set in ascending order. -/
def membersOf {n : Nat} (v : Vector Bool n) : List (Fin n) := (List.finRange n).filter (fun i => v[i])

/-- A set of sixteen flags as the number in which flag k stands for 2 to the power k (10.6). -/
def flagsNumber (flags : List Bool) : Nat := flags.foldr (fun b n => 2 * n + b.toNat) 0

/-- Put a port in a set of ports, or take it out, for each port of a list. -/
def portSet (ps : List Port) : PortSet := ps.foldl (fun v p => v.set p.index true) (noneOf 6)

end Machine

end Sys2Proof
end

