-- ==== Sys2Proof/Machine/Flags.lean ====
section
/-! DEFINITION. The codes of the records' values, the mark bytes and the flag bytes (10.3, 10.6). -/

namespace Sys2Proof.Machine

/-- The value of an answer code (10.3). -/
def AnswerCode.value : AnswerCode → Nat
  | .ok => 0
  | .format => 1
  | .role => 2
  | .recovery => 3
  | .unbound => 4
  | .noTanker => 5
  | .noCompartment => 6
  | .state => 7
  | .busy => 8
  | .barred => 9
  | .cargoClass => 10
  | .full => 11
  | .duplicate => 12
  | .range => 13
  | .held => 14
  | .lapsed => 15

/-- The code of a state (10.6). -/
def CState.code : CState → Nat
  | .dirty => 1
  | .queued => 2
  | .running => 3
  | .handover => 4
  | .held => 5
  | .washed => 6
  | .released => 7
  | .filling => 8
  | .laden => 9

/-- The code of a note (10.6). -/
def Note.code : Note → Nat
  | .aborted => 1
  | .cancelled => 2
  | .phaseTimeout => 3
  | .handoverTimeout => 4
  | .reEntryTimeout => 5
  | .holdExpired => 6
  | .inspectFailed => 7
  | .lapsed => 8
  | .voided => 9
  | .powerLost => 10
  | .probeFault => 11

/-- The code of a note that may be absent: 0 for none (10.6). -/
def noteCode : Option Note → Nat
  | none => 0
  | some n => n.code

/-- The code of a demand or kind performed, which is also its rank (10.6, R39). -/
def Demand.code : Demand → Nat
  | .noWash => 0
  | .wash => 1
  | .deep => 2

/-- The code of a grade; 0 stands for an undefined class (R22). -/
def Grade.code : Grade → Nat
  | .food => 1
  | .feed => 2
  | .technical => 3

/-- The code of a cell, which is also its strength (R25, R26). -/
def Cell.code : Cell → Nat
  | .noWash => 0
  | .wash => 1
  | .deep => 2
  | .barred => 3

/-- The code of a phase kind (2.3, WRITE-PROGRAM). -/
def PhaseKind.code : PhaseKind → Nat
  | .preRinse => 1
  | .detergent => 2
  | .hotRinse => 3
  | .finalRinse => 4

/-- The code of a basis (2.3, WRITE-PROGRAM). -/
def Basis.code : Basis → Nat
  | .thermal => 1
  | .volume => 2

/-- The code of a level: 0 LOW, 1 HIGH (R117, R156). -/
def levelCode : Level → Nat
  | .low => 0
  | .high => 1

/-- The code of a yard mode (R159). -/
def YardMode.code : YardMode → Nat
  | .recovery => 0
  | .opened => 1

/-- The code of a binding: 0 none, 1 to 4 a bay, 5 the rack (READ-TANKER). -/
def bindingCode : Option Position → Nat
  | none => 0
  | some p => p.number

/-- The number of a class, 1 to 48. -/
def classNumber (c : ClassNo) : Nat := c.val + 1

/-- The number of a program, 1 to 16; 0 for none. -/
def programNumber : Option ProgramNo → Nat
  | none => 0
  | some p => p.val + 1

/-- The number of a tanker slot, 1 to 12. -/
def slotNumber (s : Slot) : Nat := s.val + 1

/-- The progress marks byte: CLAMPED, STALE, OVERRANGE, PROBE from the lowest bit up (10.6). -/
def PhaseMarks.number (m : PhaseMarks) : Nat := flagsNumber [m.clamped, m.stale, m.overrange, m.probe]

/-- The fill marks byte, CLAMPED to ABORTED from the lowest bit up (10.6). -/
def FillMarks.number (m : FillMarks) : Nat :=
  flagsNumber [m.clamped, m.presetReached, m.overfill, m.stopped, m.mismatch, m.interrupted, m.aborted]

/-- No phase mark (R46, R52). -/
def noMarks : PhaseMarks := ⟨false, false, false, false⟩

/-- A line set as two bytes (10.6). -/
def lineBytes (v : LineSet) : List Byte := byte2 (flagsNumber v.toList)

/-- The arbiter's BLOCK-GRANTS cause: its line set is non-empty (R78). -/
def Arbiter.blockGrants (a : Arbiter) : Bool := anyOf a.blockLines

/-- Whether any block cause is set (R76). -/
def Arbiter.blocked (a : Arbiter) : Bool := a.lowPressure || a.blockGrants || a.recovery

/-- The block causes byte: LOW-PRESSURE, BLOCK-GRANTS, RECOVERY from the lowest bit up (10.4). -/
def Arbiter.causesNumber (a : Arbiter) : Nat := flagsNumber [a.lowPressure, a.blockGrants, a.recovery]

/-- A hold set holds a cause (R151). -/
def HoldSet.nonEmpty (h : HoldSet) : Bool := anyOf h.lines || h.overfill

/-- The number of causes in a hold set (R152). -/
def HoldSet.count (h : HoldSet) : Nat := countOf h.lines + h.overfill.toNat

/-- The hold set with no cause. -/
def HoldSet.empty : HoldSet := ⟨noneOf 16, false⟩

/-- A port's notices with the attention line following the two sets (R161). -/
def Notice.settled (lines : LineSet) (changed : RefSet) : Notice :=
  ⟨lines, changed, anyOf lines || anyOf changed⟩

/-- A demand that asks for a wash (R45, R123). -/
def asksWash : Option Demand → Bool
  | some .wash | some .deep => true
  | some .noWash | none => false

/-- The four wash states (3.1). -/
def CState.isWash : CState → Bool
  | .queued | .running | .handover | .held => true
  | .dirty | .washed | .released | .filling | .laden => false

end Sys2Proof.Machine
end

