-- ==== Sys2Proof/Machine/Start.lean ====
section
/-! DEFINITION. The settings (R174, R175), the default routes (R148), and what each domain holds after a cold start,
a power return and a YARD-RESET (R19, R65, R82, R100, R106, R110, R116, R145, R147, R151, R157, R167, R169, R170). -/

namespace Sys2Proof.Machine

/-- The largest reading of the yard clock (R172). -/
def maxClock : Nat := 4294967295

/-- The largest certificate number (R119). -/
def maxCertificate : Nat := 999999

/-! ## Settings -/

/-- The lowest value of a setting, by its index (number less 1) (R174). -/
def settingLow (i : Fin 25) : Nat :=
  [1, 0, 60, 10, 60, 1, 0, 1, 1, 1, 1, 1, 1, 1, 1, 1, 1, 0, 0, 0, 0, 0, 0, 0, 0].getD i.val 0

/-- The highest value of a setting (R174). -/
def settingHigh (i : Fin 25) : Nat :=
  [12, 1000, 1800, 600, 3600, 48, 200, 100, 100, 100, 100, 100, 8, 8, 8, 8, 8,
    1023, 1023, 1023, 1023, 4095, 4095, 4095, 4095].getD i.val 0

/-- Every setting's default (R174). -/
def defaultSettings : Vector Nat 25 :=
  #v[8, 250, 600, 120, 1200, 12, 10, 10, 10, 10, 10, 10, 4, 4, 4, 4, 4, 600, 600, 600, 600, 0, 0, 0, 0]

/-- Settings 13 to 17, the pulse filters, take one of 1, 2, 4, 8 (R174). -/
def isFilterSetting (i : Fin 25) : Bool := 12 ≤ i.val && i.val ≤ 16

/-- The value stored for a value sent (R175). -/
def clampSetting (i : Fin 25) (v : Nat) : Nat :=
  if isFilterSetting i then
    if v ≤ 1 then 1 else if v ≤ 2 then 2 else if v ≤ 4 then 4 else 8
  else max (settingLow i) (min v (settingHigh i))

/-- Setting 1, loop capacity. -/
def Retained.loopCapacity (r : Retained) : Nat := r.settings[0]

/-- Setting 2, pressure minimum in kPa. -/
def Retained.pressureMinimum (r : Retained) : Nat := r.settings[1]

/-- Setting 3, re-entry limit in seconds. -/
def Retained.reEntryLimit (r : Retained) : Nat := r.settings[2]

/-- Setting 4, handover limit in seconds. -/
def Retained.handoverLimit (r : Retained) : Nat := r.settings[3]

/-- Setting 5, hold limit in seconds. -/
def Retained.holdLimit (r : Retained) : Nat := r.settings[4]

/-- Setting 6, release lifetime in hours. -/
def Retained.releaseLifetime (r : Retained) : Nat := r.settings[5]

/-- Setting 7, endpoint hysteresis H in µS/cm. -/
def Retained.hysteresis (r : Retained) : Nat := r.settings[6]

/-- Settings 8 to 12, the meter constants in dL a pulse. -/
def Retained.meterConstant (r : Retained) (m : Position) : Nat :=
  r.settings[7 + m.index.val]'(by have := m.index.isLt; omega)

/-- Settings 13 to 17, the pulse filters N. -/
def Retained.pulseFilter (r : Retained) (m : Position) : Nat :=
  r.settings[12 + m.index.val]'(by have := m.index.isLt; omega)

/-- Settings 18 to 21, the share openings. -/
def Retained.shareOpening (r : Retained) (b : Bay) : Nat :=
  r.settings[17 + b.val]'(by have := b.isLt; omega)

/-- Settings 22 to 25, the park values. -/
def Retained.parkValue (r : Retained) (b : Bay) : Nat :=
  r.settings[21 + b.val]'(by have := b.isLt; omega)

/-! ## Routes -/

/-- A default route: UNMASKED, ACTIVE-LOW, LEVEL, filter 4 (R148). -/
def defaultRouteOf (action : Action) (notify : List Port) : Route :=
  ⟨false, .activeLow, .level, action, portSet notify, 4⟩

/-- The default route table (R148). -/
def defaultRoutes : Vector Route 16 :=
  #v[defaultRouteOf .holdAll [.bay 0, .bay 1, .bay 2, .bay 3, .rack, .office],
    defaultRouteOf (.holdBay 0) [.bay 0, .office], defaultRouteOf (.holdBay 1) [.bay 1, .office],
    defaultRouteOf (.holdBay 2) [.bay 2, .office], defaultRouteOf (.holdBay 3) [.bay 3, .office],
    defaultRouteOf (.holdBay 0) [.bay 0, .office], defaultRouteOf (.holdBay 1) [.bay 1, .office],
    defaultRouteOf (.holdBay 2) [.bay 2, .office], defaultRouteOf (.holdBay 3) [.bay 3, .office],
    defaultRouteOf (.holdBay 0) [.bay 0, .office], defaultRouteOf (.holdBay 1) [.bay 1, .office],
    defaultRouteOf (.holdBay 2) [.bay 2, .office], defaultRouteOf (.holdBay 3) [.bay 3, .office],
    defaultRouteOf .stopRack [.rack, .office], defaultRouteOf .stopRack [.rack, .office],
    defaultRouteOf .blockGrants [.bay 0, .bay 1, .bay 2, .bay 3, .office]]

/-- The active level of a polarity (R147). -/
def Polarity.activeLevel : Polarity → Level
  | .activeLow => .low
  | .activeHigh => .high

/-- The inactive level of a polarity (R147). -/
def Polarity.inactiveLevel : Polarity → Level
  | .activeLow => .high
  | .activeHigh => .low

/-! ## The domains after a start -/

/-- The retained domain as a cold start writes it, the marker valid last (R169). -/
def Retained.coldStart : Retained where
  classes := Vector.replicate 48 none
  follow := Vector.replicate 12 (Vector.replicate 12 .wash)
  programs := Vector.replicate 16 []
  routes := defaultRoutes
  settings := defaultSettings
  clock := 0
  certificate := 1
  tankers := Vector.replicate 12 none
  pool := Vector.replicate 64 none
  freeList := List.finRange 64
  bindings := Vector.replicate 5 none
  markerValid := true

/-- An idle wash unit with all timers stopped and its account items as R65 and R100 give; the endpoint counter starts
at 0 (log entry 14). -/
def WashUnit.start : WashUnit := ⟨none, false, false, none, none, none, 0, none, none, none, 0⟩

/-- A sample slot after a reset (R106). -/
def SampleSlot.start : SampleSlot := ⟨none, false, none, 65535⟩

/-- A pulse channel after a reset (R110). -/
def PulseChannel.start : PulseChannel := ⟨⟨.low, 0⟩, 0⟩

/-- A port after a reset (R167). -/
def PortState.start : PortState := ⟨.hunting, none, none, 0⟩

/-- A bay's outputs parked: valve 0, sweep stopped at the park value (R114, R116). -/
def BayOutputs.parked (park : Nat) : BayOutputs := ⟨0, park, none⟩

/-- A port's notices with nothing unread (R157). -/
def Notice.start : Notice := ⟨noneOf 16, noneOf 64, false⟩

/-- The arbiter after a reset, with the capacity of setting 1 (R82) and no grant request on its way. -/
def Arbiter.start (capacity : Nat) : Arbiter := ⟨capacity, 0, [], true, noneOf 16, true, none⟩

/-- The active domain after a reset, from the retained settings and routes, with the office's changed set holding
the records the mapping changed (R170). -/
def Active.start (r : Retained) (changed : RefSet) : Active where
  mode := .recovery
  arbiter := Arbiter.start r.loopCapacity
  units := Vector.replicate 4 WashUnit.start
  slots := Vector.replicate 6 SampleSlot.start
  scanNext := 0
  pulses := Vector.replicate 5 PulseChannel.start
  outputs := #v[BayOutputs.parked (r.parkValue 0), BayOutputs.parked (r.parkValue 1),
    BayOutputs.parked (r.parkValue 2), BayOutputs.parked (r.parkValue 3)]
  lines := mapTable (fun e => ⟨e.polarity.inactiveLevel, 0⟩) r.routes
  holds := Vector.replicate 5 HoldSet.empty
  notices := (Vector.replicate 6 Notice.start).set 5 (Notice.settled (noneOf 16) changed)
  fillUnit := ⟨none, false⟩
  releaseTimer := false
  lapsesDue := noneOf 64
  ports := Vector.replicate 6 PortState.start
  yardReset := .idle

end Sys2Proof.Machine
end

