-- ==== Sys2Proof/Machine/State.lean ====
section
/-! DEFINITION. The state of the part, its faults and refusals, and the state after reset. -/

namespace Sys2Proof.Machine

/-- The state: the two domains of R168, whether main power is present, the model's counter of free values used, and
the queue of commands waiting, first in, first out. -/
structure State where
  ret : Retained
  act : Active
  mainPower : Bool
  freeCount : Nat
  pending : List Instr
deriving DecidableEq, Repr

/-- The reasons the part stops with a fault: none. The manual gives every command and event an effect, or says that it
is not taken and changes nothing, so this inductive is closed without a constructor. -/
inductive Fault
deriving DecidableEq, Repr

/-- The reasons a command is refused a meaning. -/
inductive Refusal where
  /-- Raised by `exec` for a row that has no meaning yet; safe. No arm of this model raises it. -/
  | notModelled (mnemonic : String)
deriving DecidableEq, Repr

/-- The machine right after reset: main power on, the first cold start of a new module just made (R169), no command
waiting. Every field is at the value the manual gives for a cold start. -/
def State.reset : State where
  ret := Retained.coldStart
  act := Active.start Retained.coldStart (noneOf 64)
  mainPower := true
  freeCount := 0
  pending := []

end Sys2Proof.Machine
end

