-- ==== Sys2Proof/Machine/Ops.lean ====
section
/-! DEFINITION. The named operations over the state: writing one entry of a table, the notice store's marks (R157,
R161), the yard table's transition requests (R7, R8), naming a compartment (R16), bindings (R12), and hold sets
(R151). -/

namespace Sys2Proof.Machine

/-! ## Writing one entry -/

/-- Write one compartment record. -/
def State.setRecord (s : State) (r : RecordRef) (c : Option Compartment) : State :=
  { s with ret := { s.ret with pool := s.ret.pool.set r c } }

/-- Write one tanker slot. -/
def State.setTanker (s : State) (i : Slot) (t : Option Tanker) : State :=
  { s with ret := { s.ret with tankers := s.ret.tankers.set i t } }

/-- Write one position's binding. -/
def State.setBinding (s : State) (p : Position) (o : Option Slot) : State :=
  { s with ret := { s.ret with bindings := s.ret.bindings.set p.index o } }

/-- Write one wash unit. -/
def State.setUnit (s : State) (b : Bay) (u : WashUnit) : State :=
  { s with act := { s.act with units := s.act.units.set b u } }

/-- Write one bay's outputs. -/
def State.setOutputs (s : State) (b : Bay) (o : BayOutputs) : State :=
  { s with act := { s.act with outputs := s.act.outputs.set b o } }

/-- Write the arbiter. -/
def State.setArbiter (s : State) (a : Arbiter) : State :=
  { s with act := { s.act with arbiter := a } }

/-- Write one port's notices; the attention line follows the two sets in the same step (R161). -/
def State.setNotice (s : State) (p : Port) (lines : LineSet) (changed : RefSet) : State :=
  { s with act := { s.act with notices := s.act.notices.set p.index (Notice.settled lines changed) } }

/-- Write one station port. -/
def State.setPort (s : State) (p : Port) (x : PortState) : State :=
  { s with act := { s.act with ports := s.act.ports.set p.index x } }

/-- Write one hold set. -/
def State.setHold (s : State) (p : Position) (h : HoldSet) : State :=
  { s with act := { s.act with holds := s.act.holds.set p.index h } }

/-- Write one line filter. -/
def State.setLine (s : State) (l : Line) (f : Filter) : State :=
  { s with act := { s.act with lines := s.act.lines.set l f } }

/-- Write one pulse channel. -/
def State.setPulse (s : State) (m : Position) (c : PulseChannel) : State :=
  { s with act := { s.act with pulses := s.act.pulses.set m.index c } }

/-- Write one sample slot. -/
def State.setSlot (s : State) (ch : Probe) (x : SampleSlot) : State :=
  { s with act := { s.act with slots := s.act.slots.set ch x } }

/-- Write the rack fill unit. -/
def State.setFillUnit (s : State) (u : FillUnit) : State :=
  { s with act := { s.act with fillUnit := u } }

/-- The next state where main power is present; without it the part does nothing (R168). -/
def whenPowered (s : State) (f : State → State) : State := if s.mainPower then f s else s

/-! ## Reading -/

/-- The record of a reference, if it is in use. -/
def State.record (s : State) (r : RecordRef) : Option Compartment := s.ret.pool[r]

/-- A position's binding (R12). -/
def State.binding (s : State) (p : Position) : Option Slot := s.ret.bindings[p.index]

/-- A position's hold set (R151). -/
def State.hold (s : State) (p : Position) : HoldSet := s.act.holds[p.index]

/-- A port's notices (R157). -/
def State.notice (s : State) (p : Port) : Notice := s.act.notices[p.index]

/-- A station port. -/
def State.port (s : State) (p : Port) : PortState := s.act.ports[p.index]

/-- A record in use is in a given state. -/
def State.inState (s : State) (r : RecordRef) (x : CState) : Bool :=
  match s.record r with
  | some c => c.state == x
  | none => false

/-- Whether any record in use satisfies a test. -/
def State.anyRecord (s : State) (f : Compartment → Bool) : Bool :=
  s.ret.pool.toList.any (fun o => match o with | some c => f c | none => false)

/-- How many records in use satisfy a test. -/
def State.countRecords (s : State) (f : Compartment → Bool) : Nat :=
  s.ret.pool.toList.countP (fun o => match o with | some c => f c | none => false)

/-- The tanker that lists a record reference (R3). -/
def State.ownerSlot (s : State) (r : RecordRef) : Option Slot :=
  (List.finRange 12).find? (fun i => match s.ret.tankers[i] with
    | some t => t.compartments.contains r
    | none => false)

/-- The binding of the tanker that lists a record reference. -/
def State.ownerBinding (s : State) (r : RecordRef) : Option Position :=
  (s.ownerSlot r).bind (fun i => (s.ret.tankers[i]).bind (·.binding))

/-- Whether a line is active: its accepted level is the active level of its polarity (R147). -/
def State.lineActive (s : State) (l : Line) : Bool :=
  s.act.lines[l].accepted == s.ret.routes[l].polarity.activeLevel

/-- The set of active lines. -/
def State.activeLines (s : State) : LineSet :=
  ⟨⟨List.zipWith (fun (f : Filter) (e : Route) => f.accepted == e.polarity.activeLevel)
    s.act.lines.toList s.ret.routes.toList⟩, by simp⟩

/-- The phase a compartment is at, from its stored program (R28). -/
def State.phaseOf (s : State) (c : Compartment) (index : Nat) : Option Phase :=
  c.program.bind (fun p => if index = 0 then none else s.ret.programs[p][index - 1]?)

/-- The phase count of a compartment's stored program; a compartment without one has none (R4). -/
def State.phaseCount (s : State) (c : Compartment) : Nat :=
  match c.program with
  | some p => s.ret.programs[p].length
  | none => 0

/-! ## The notice store -/

/-- A reference joins a port's changed-compartment set (R157). -/
def State.markChanged (s : State) (p : Port) (r : RecordRef) : State :=
  s.setNotice p (s.notice p).pendingLines ((s.notice p).changed.set r true)

/-- The yard table hands a reference over: the office's port always, and the port of the position its tanker is bound
to (R8, R157). -/
def State.notify (s : State) (r : RecordRef) : State :=
  match s.ownerBinding r with
  | some p => (s.markChanged .office r).markChanged p.port r
  | none => s.markChanged .office r

/-- A line joins a port's pending-line set (R158). -/
def State.addPending (s : State) (p : Port) (l : Line) : State :=
  s.setNotice p ((s.notice p).pendingLines.set l true) (s.notice p).changed

/-- A line leaves a port's pending-line set (R158). -/
def State.dropPending (s : State) (p : Port) (l : Line) : State :=
  s.setNotice p ((s.notice p).pendingLines.set l false) (s.notice p).changed

/-- The six ports. -/
def allPorts : List Port := [.bay 0, .bay 1, .bay 2, .bay 3, .rack, .office]

/-! ## Transition requests -/

/-- Write a record and hand it to the notice store: a taken change of state (R8). -/
def State.changeRecord (s : State) (r : RecordRef) (c : Compartment) : State :=
  (s.setRecord r (some c)).notify r

/-- A transition request (R7): taken, and handed to the notice store, if the record is in an expected state; otherwise
not taken, and nothing changes. -/
def State.transition (s : State) (r : RecordRef) (expected : List CState) (f : Compartment → Compartment) : State :=
  match s.record r with
  | some c => if expected.contains c.state then s.changeRecord r (f c) else s
  | none => s

/-- Put a class at the head of a history, the oldest of four dropped (R4). -/
def pushHistory (k : ClassNo) (h : List ClassNo) : List ClassNo := (k :: h).take 3

/-! ## Naming a compartment -/

/-- A resolved compartment: its tanker's slot, its reference and its record. -/
structure Named where
  slot : Slot
  ref : RecordRef
  record : Compartment
deriving DecidableEq, Repr

/-- The compartment of a number, 1 to the count, of a tanker. -/
def State.compartmentOf (s : State) (i : Slot) (t : Tanker) (n : Nat) : Option Named :=
  if n = 0 then none else
    match t.compartments[n - 1]? with
    | some r => (s.record r).map (fun c => ⟨i, r, c⟩)
    | none => none

/-- The tanker bound to a position (R12). -/
def State.boundTanker (s : State) (p : Position) : Option (Slot × Tanker) :=
  match s.binding p with
  | some i => (s.ret.tankers[i]).map (fun t => (i, t))
  | none => none

/-- The tanker in the slot of a number, 1 to 12. -/
def State.tankerAt (s : State) (n : Nat) : Option (Slot × Tanker) :=
  if h : 1 ≤ n ∧ n ≤ 12 then
    (s.ret.tankers[n - 1]'(by omega)).map (fun t => (⟨n - 1, by omega⟩, t))
  else none

/-- Name a compartment by its number through a position's binding (R16). -/
def State.nameBound (s : State) (p : Position) (n : Nat) : Except AnswerCode Named :=
  match s.boundTanker p with
  | none => .error .unbound
  | some (i, t) =>
    match s.compartmentOf i t n with
    | some x => .ok x
    | none => .error .noCompartment

/-- Name a compartment by slot and number, as the office does (R16). -/
def State.nameAtSlot (s : State) (slot n : Nat) : Except AnswerCode Named :=
  match s.tankerAt slot with
  | none => .error .noTanker
  | some (i, t) =>
    match s.compartmentOf i t n with
    | some x => .ok x
    | none => .error .noCompartment

/-! ## Bindings and hold sets -/

/-- Bind a tanker to a position, both sides together (R12, R13). -/
def State.bindTanker (s : State) (p : Position) (i : Slot) (t : Tanker) : State :=
  (s.setBinding p (some i)).setTanker i (some { t with binding := some p })

/-- Remove a binding, both sides together (R12, R14, R15). -/
def State.unbindTanker (s : State) (p : Position) (i : Slot) (t : Tanker) : State :=
  (s.setBinding p none).setTanker i (some { t with binding := none })

/-- The rack's hold set becoming non-empty is handed to the rack fill unit, which sends its STOPPED update while it is
active (R137, R149). Where the set is emptied and becomes non-empty again (R153) while an earlier update is still on its
way, the manual does not say whether two updates are on their way at once; the model keeps one, which is handed to the
notice store once (DESIGN CHOICE, log entry 9). -/
def State.rackHeld (s : State) : State :=
  if s.act.fillUnit.active.isSome then s.setFillUnit { s.act.fillUnit with stopDue := true } else s

/-- A line joins a position's hold set; a set made non-empty at the rack is handed on. A bay's is met by the wash
unit's hold, which expects the set non-empty (R60, R149). -/
def State.joinHold (s : State) (p : Position) (l : Line) : State :=
  let s' := s.setHold p { s.hold p with lines := (s.hold p).lines.set l true }
  if p = .rack ∧ (s.hold p).nonEmpty = false then s'.rackHeld else s'

/-! ## What an owner answers -/

/-- What a request is answered: a code and a body (R164). -/
structure Reply where
  code : AnswerCode
  body : List Byte
deriving DecidableEq, Repr

/-- A refusal with an empty body (R164). -/
def refuse (c : AnswerCode) : Reply := ⟨c, []⟩

/-- An OK answer. -/
def okay (body : List Byte) : Reply := ⟨.ok, body⟩

end Sys2Proof.Machine
end

