-- ==== Sys2Proof/Machine/Arbiter.lean ====
section
/-! DEFINITION. The hot loop arbiter (chapter 4): the queue, the scan of a grant decision, the grant, the return of
shares, the block causes; and the outputs a grant and a return set (R111 to R114).

A grant decision runs over several steps (R71). The event that calls for it makes its first scan in its own step, and
the grant picked is sent to the yard table, where the step GRANT takes it (R73). A decision is in progress while a
request is on its way or the scan would pick an entry; each of its later grants is picked afresh in the step GRANT that
takes it (log entry 6). -/

namespace Sys2Proof.Machine

/-- The room of the loop: C less G, 0 when G is greater (R66). -/
def Arbiter.room (a : Arbiter) : Nat := a.capacity - a.granted

/-- The entry the scan picks and whether it is a backfill (R72), nothing while a block cause is set (R71). -/
def Arbiter.pick (a : Arbiter) : Option (QueueEntry × Bool) :=
  if a.blocked then none else
    match a.queue with
    | [] => none
    | head :: later =>
      if head.shares ≤ a.room then some (head, false)
      else if head.passCount < 3 then
        (later.find? (fun e => e.shares ≤ a.room)).map (fun e => (e, true))
      else none

/-- An event of R71 has made `a` of the arbiter `before`: where no decision is in progress one begins, and the grant its
scan picks is sent to the yard table; a decision in progress serves the event, its scan reading afresh (R71, R80). -/
def Arbiter.decided (a before : Arbiter) : Arbiter :=
  if before.sent = none ∧ before.pick = none then { a with sent := a.pick.map (fun x => x.1.ref) } else a

/-- The grant request that reaches the yard table at a GRANT, and whether it is a backfill: the one sent, if its entry
is still queued and its shares are still at most the room (R67, R73), and otherwise the scan's pick. A block cause set
since the request was sent does not stop it (R80). -/
def Arbiter.request (a : Arbiter) : Option (QueueEntry × Bool) :=
  match a.sent with
  | none => a.pick
  | some r =>
    (a.queue.find? (fun e => e.ref = r ∧ e.shares ≤ a.room)).map (fun e => (e, decide (a.queue.head? ≠ some e)))

/-- Raise the pass count of the head (R72). -/
def raiseHead : List QueueEntry → List QueueEntry
  | [] => []
  | head :: later => { head with passCount := head.passCount + 1 } :: later

/-- The queue without the entry of a record (R70). -/
def removeEntry (r : RecordRef) (q : List QueueEntry) : List QueueEntry := q.filter (fun e => e.ref ≠ r)

/-- The arbiter after a taken grant: the entry leaves, G rises by its shares, and a backfill raises the head's pass
count (R73). The request has reached the yard table. -/
def Arbiter.grantTaken (a : Arbiter) (e : QueueEntry) (backfill : Bool) : Arbiter :=
  { a with
    granted := a.granted + e.shares
    queue := removeEntry e.ref (if backfill then raiseHead a.queue else a.queue)
    sent := none }

/-- The arbiter after a request that was not taken (R73): only that it is no longer on its way; the scan starts again at
the next GRANT. -/
def Arbiter.notTaken (a : Arbiter) : Arbiter := { a with sent := none }

/-- The entry a request joins with: clamped to C as it stands (R69). -/
def Arbiter.entryFor (a : Arbiter) (b : Bay) (r : RecordRef) (shares : Nat) : QueueEntry :=
  if shares ≤ a.capacity then ⟨b, r, shares, false, 0⟩ else ⟨b, r, a.capacity, true, 0⟩

/-- An entry joins at the tail (R69), and a decision follows (R71). -/
def Arbiter.join (a : Arbiter) (e : QueueEntry) : Arbiter := Arbiter.decided { a with queue := a.queue ++ [e] } a

/-- The entry of a record leaves other than by a grant (R70), and a decision follows (R71). A grant request on its way
for that record will not be taken (R73). -/
def Arbiter.leave (a : Arbiter) (r : RecordRef) : Arbiter :=
  Arbiter.decided { a with
    queue := removeEntry r a.queue
    sent := if a.sent = some r then none else a.sent } a

/-- Shares are returned (R74), and a decision follows (R71). -/
def Arbiter.returnShares (a : Arbiter) (shares : Nat) : Arbiter :=
  Arbiter.decided { a with granted := a.granted - shares } a

/-- The arbiter takes a loop capacity (R75), and a decision follows (R71). -/
def Arbiter.setCapacity (a : Arbiter) (capacity : Nat) : Arbiter := Arbiter.decided { a with capacity := capacity } a

/-- A line joins or leaves the BLOCK-GRANTS line set (R78); a cause so cleared is followed by a decision (R76). -/
def Arbiter.setBlockLine (a : Arbiter) (l : Line) (member : Bool) : Arbiter :=
  Arbiter.decided { a with blockLines := a.blockLines.set l member } a

/-- The RECOVERY cause clears, and a decision follows (R79). -/
def Arbiter.endRecovery (a : Arbiter) : Arbiter := Arbiter.decided { a with recovery := false } a

/-- The LOW-PRESSURE cause after a sample; `none` is a faulty one (R77). -/
def lowPressureAfter (before : Bool) (minimum : Nat) : Option Nat → Bool
  | none => true
  | some v => if v < minimum then true else if minimum + 20 ≤ v then false else before

/-- The arbiter takes a pressure sample (R77); a cause so cleared is followed by a decision (R76). -/
def Arbiter.pressureSample (a : Arbiter) (minimum : Nat) (sample : Option Nat) : Arbiter :=
  Arbiter.decided { a with lowPressure := lowPressureAfter a.lowPressure minimum sample } a

/-- A bay's outputs at a grant: the valve at shares times the opening, the sweep started at its low going UP (R112). -/
def BayOutputs.running (shares opening sweepLow : Nat) : BayOutputs :=
  ⟨min (shares * opening) 4095, sweepLow, some ⟨sweepLow, .up⟩⟩

/-- A wash unit at a grant: the re-entry timer stopped, the phase timer running on, the interval timer started, and an
interval begun with the meter constant as it stands, and the endpoint counter restarted (R47, R84). -/
def WashUnit.granted (u : WashUnit) (k : Nat) : WashUnit :=
  { u with
    phaseTimer := true
    intervalTimer := true
    reEntryTimer := none
    intervalCount := 0
    intervalK := some k
    lastSample := none
    endpointCounter := 0 }

/-- A record at a grant: RUNNING with the shares granted and the endpoint count restarted (R47). -/
def Compartment.granted (c : Compartment) (p : Progress) (shares : Nat) : Compartment :=
  { c with state := .running, progress := some { p with sharesHeld := shares, endpointCount := 0 } }

/-- A taken grant (R47, R73, R112). -/
def State.takeGrant (s : State) (e : QueueEntry) (backfill : Bool) (c : Compartment) (p : Progress) (ph : Phase) :
    State :=
  (((s.setArbiter (s.act.arbiter.grantTaken e backfill)).setUnit e.bay
      ((s.act.units[e.bay]).granted (s.ret.meterConstant (.bay e.bay)))).setOutputs e.bay
      (BayOutputs.running e.shares (s.ret.shareOpening e.bay) ph.sweepLow)).changeRecord e.ref
      (c.granted p e.shares)

/-- A grant request that the yard table does not take (R73). -/
def State.refuseGrant (s : State) : State := s.setArbiter s.act.arbiter.notTaken

/-- A grant request at the yard table, expecting QUEUED (R73). -/
def State.grantStep (s : State) : State :=
  match s.act.arbiter.request with
  | none => s.refuseGrant
  | some (e, backfill) =>
    match s.record e.ref with
    | none => s.refuseGrant
    | some c =>
      match c.state, c.progress with
      | .queued, some p =>
        match s.phaseOf c p.phaseIndex with
        | some ph => s.takeGrant e backfill c p ph
        | none => s.refuseGrant
      | _, _ => s.refuseGrant

/-- GRANT (R73): one grant of a grant decision. -/
def execGrant (s : State) : Host.Outcome State Fault Refusal := .next (whenPowered s State.grantStep)

/-! ## READ-LOOP -/

/-- The shares held at a bay: those of its RUNNING compartment, or 0 (R81). -/
def State.sharesAt (s : State) (b : Bay) : Nat :=
  match (s.act.units[b]).active with
  | none => 0
  | some r =>
    match s.record r with
    | none => 0
    | some c => match c.state, c.progress with
      | .running, some p => p.sharesHeld
      | _, _ => 0

/-- A queue entry as READ-LOOP reports it (4.8). -/
def QueueEntry.bytes (e : QueueEntry) : List Byte :=
  byte1 (e.bay.val + 1) ++ byte1 e.ref.val ++ byte1 e.shares ++ byteFlag e.clamped ++ byte1 e.passCount

/-- READ-LOOP (R81). -/
def readLoopReply (s : State) : Reply :=
  let a := s.act.arbiter
  okay (byte1 a.capacity ++ byte1 a.granted ++ byte1 a.causesNumber ++ lineBytes a.blockLines
    ++ byte1 (s.sharesAt 0) ++ byte1 (s.sharesAt 1) ++ byte1 (s.sharesAt 2) ++ byte1 (s.sharesAt 3)
    ++ byte1 a.queue.length ++ a.queue.flatMap QueueEntry.bytes)

/-- READ-LOOP at the arbiter. -/
def ownReadLoop (_ : Port) (_ : List Byte) (s : State) : State × Reply := (s, readLoopReply s)

end Sys2Proof.Machine
end

