-- ==== Sys2Proof/Machine/WashCycle.lean ====
section
/-! DEFINITION. The wash cycle (chapter 3): starting a wash, its phases' ends, the ends in DIRTY, the timers, holds
and resumes. A request's owner is called after the common checks of R165, which fix the length of its body and the
role of its port; the last arm of each owner, for any other shape, cannot be met and answers FORMAT. -/

namespace Sys2Proof.Machine

/-! ## Shared moves -/

/-- The bay whose wash unit is active with a record (R42). -/
def State.unitOf (s : State) (r : RecordRef) : Option Bay :=
  (List.finRange 4).find? (fun b => (s.act.units[b]).active == some r)

/-- A wash unit whose compartment has left RUNNING: the interval under way abandoned, its timers stopped (R48, R84), and
the endpoint counter back at 0 (log entry 14). -/
def WashUnit.ended (u : WashUnit) : WashUnit :=
  { u with
    phaseTimer := false
    intervalTimer := false
    intervalCount := 0
    intervalK := none
    lastSample := none
    endpointCounter := 0 }

/-- A wash unit become idle with all its timers stopped; the supply temperature held is the unit's and stays (R42,
R83). -/
def WashUnit.idle (u : WashUnit) : WashUnit := { WashUnit.start with supply := u.supply }

/-- The shares a record holds (R5). -/
def Compartment.shares (c : Compartment) : Nat :=
  match c.progress with
  | some p => p.sharesHeld
  | none => 0

/-- Leaving RUNNING: the shares returned and the bay's outputs parked together (R74, R114). -/
def State.leaveRunning (s : State) (b : Bay) (shares : Nat) : State :=
  (s.setArbiter (s.act.arbiter.returnShares shares)).setOutputs b (BayOutputs.parked (s.ret.parkValue b))

/-- What a record gives up at the arbiter and the outputs when it leaves its wash state: shares if RUNNING, its entry
if QUEUED (R55, R60). -/
def State.releaseLoop (s : State) (b : Bay) (r : RecordRef) (c : Compartment) : State :=
  match c.state with
  | .running => s.leaveRunning b c.shares
  | .queued => s.setArbiter (s.act.arbiter.leave r)
  | _ => s

/-- A record ended in DIRTY with a note (R55). -/
def Compartment.endedDirty (c : Compartment) (n : Note) : Compartment :=
  { c with state := .dirty, note := some n, progress := none }

/-- A wash ends in DIRTY with a note, and the bay's wash unit becomes idle (R55). -/
def State.endWash (s : State) (b : Bay) (r : RecordRef) (c : Compartment) (n : Note) : State :=
  ((s.releaseLoop b r c).setUnit b (s.act.units[b]).idle).changeRecord r (c.endedDirty n)

/-- A record entered QUEUED: queued-since written, the note cleared, CLAMPED set if its entry is clamped (R46, R52,
R62, R69). -/
def Compartment.enterQueued (c : Compartment) (p : Progress) (clock : Nat) (clamped : Bool) : Compartment :=
  { c with
    state := .queued
    note := none
    progress := some { p with
      sharesHeld := 0
      heldFrom := none
      heldSince := none
      queuedSince := clock
      marks := { p.marks with clamped := p.marks.clamped || clamped } } }

/-- A wash unit whose compartment entered QUEUED: all its timers are stopped, but for the re-entry timer, which runs
from phase 2 on (R42, R46, R59). -/
def WashUnit.enterQueued (u : WashUnit) (r : RecordRef) (phaseIndex limit : Nat) : WashUnit :=
  { u with
    active := some r
    phaseTimer := false
    intervalTimer := false
    handoverTimer := none
    holdTimer := none
    reEntryTimer := if 2 ≤ phaseIndex then some limit else none }

/-- A compartment enters QUEUED and its request joins the grant queue in the same step (R46, R52, R62, R69). -/
def State.enterQueued (s : State) (b : Bay) (r : RecordRef) (c : Compartment) (p : Progress) (ph : Phase) : State :=
  let e := s.act.arbiter.entryFor b r ph.shares
  ((s.setArbiter (s.act.arbiter.join e)).setUnit b
      ((s.act.units[b]).enterQueued r p.phaseIndex s.ret.reEntryLimit)).changeRecord r
      (c.enterQueued p s.ret.clock e.clamped)

/-- A completed phase's record when it is not the last: HANDOVER (R49, R51). -/
def Compartment.handedOver (c : Compartment) (p : Progress) : Compartment :=
  { c with
    state := .handover
    progress := some { p with sharesHeld := 0, phaseDoses := p.phaseDoses ++ [p.dose] } }

/-- A completed last phase's record: WASHED with its wash summary (R49, R50). -/
def Compartment.washed (c : Compartment) (p : Progress) (final : Option Nat) : Compartment :=
  { c with
    state := .washed
    progress := none
    summary := some ⟨c.demand.getD .noWash, p.phaseDoses ++ [p.dose], final⟩ }

/-- The completion of a phase (R49): R50 for the last, R51 for any other. `p` is the progress as the update whose test
passed leaves it. -/
def State.completePhase (s : State) (b : Bay) (r : RecordRef) (c : Compartment) (p : Progress) (ph : Phase) : State :=
  let u := s.act.units[b]
  let out := s.leaveRunning b p.sharesHeld
  if p.phaseIndex = s.phaseCount c then
    (out.setUnit b u.idle).changeRecord r (c.washed p (if ph.endpoint.isSome then u.lastSample else none))
  else
    (out.setUnit b { u.ended with handoverTimer := some s.ret.handoverLimit }).changeRecord r (c.handedOver p)

/-! ## START-WASH, PHASE-GO, ABORT-WASH, CANCEL-WASH -/

/-- The progress part START-WASH creates (R46). -/
def freshProgress (clock : Nat) : Progress := ⟨1, 0, 0, 0, 0, 0, [], noMarks, none, clock, none⟩

/-- The progress part of the next phase (R52). -/
def Progress.nextPhase (p : Progress) : Progress :=
  { p with
    phaseIndex := p.phaseIndex + 1
    dose := 0
    remainder := 0
    runningTime := 0
    endpointCount := 0
    marks := noMarks }

/-- The kind, basis and shares of a phase as START-WASH and PHASE-GO answer them (3.3, 3.6). -/
def Phase.answer (ph : Phase) : List Byte := byte1 ph.kind.code ++ byte1 ph.basis.code ++ byte1 ph.shares

/-- START-WASH's own checks and change (R45, R46). -/
def startWashOn (b : Bay) (x : Named) (s : State) : State × Reply :=
  if x.record.state ≠ .dirty ∨ asksWash x.record.demand = false then (s, refuse .state)
  else if (s.act.units[b]).active.isSome then (s, refuse .busy)
  else if (s.hold (.bay b)).nonEmpty then (s, refuse .held)
  else match s.phaseOf x.record 1 with
    | none => (s, refuse .cargoClass)
    | some ph =>
      (s.enterQueued b x.ref x.record (freshProgress s.ret.clock) ph,
        okay (byte1 (s.phaseCount x.record) ++ byte1 1 ++ ph.answer))

/-- START-WASH (R45, R46). -/
def ownStartWash (p : Port) (body : List Byte) (s : State) : State × Reply :=
  match p, body with
  | .bay b, [n] =>
    match s.nameBound (.bay b) n.toNat with
    | .error e => (s, refuse e)
    | .ok x => startWashOn b x s
  | _, _ => (s, refuse .format)

/-- PHASE-GO's own check and change (R52), at the bay whose wash unit holds the compartment, which by R43 is the sending
bay. A HANDOVER compartment is some unit's and has a next phase (R43, R51); the arms without answer STATE and are never
met from reset. -/
def phaseGoOn (x : Named) (s : State) : State × Reply :=
  match x.record.state, x.record.progress, s.unitOf x.ref with
  | .handover, some p, some b =>
    match s.phaseOf x.record (p.phaseIndex + 1) with
    | none => (s, refuse .state)
    | some ph =>
      (s.enterQueued b x.ref x.record p.nextPhase ph, okay (byte1 (p.phaseIndex + 1) ++ ph.answer))
  | _, _, _ => (s, refuse .state)

/-- PHASE-GO (R52). -/
def ownPhaseGo (p : Port) (body : List Byte) (s : State) : State × Reply :=
  match p, body with
  | .bay b, [n] =>
    match s.nameBound (.bay b) n.toNat with
    | .error e => (s, refuse e)
    | .ok x => phaseGoOn x s
  | _, _ => (s, refuse .format)

/-- ABORT-WASH and CANCEL-WASH end a wash in DIRTY at the wash unit that holds the compartment (R55). A compartment in a
wash state is its bay's active compartment (R42); the arm without a unit is never met from reset. -/
def State.stopWash (s : State) (r : RecordRef) (c : Compartment) (n : Note) : State :=
  match s.unitOf r with
  | some b => s.endWash b r c n
  | none => s.changeRecord r (c.endedDirty n)

/-- ABORT-WASH (R56). -/
def ownAbortWash (p : Port) (body : List Byte) (s : State) : State × Reply :=
  match p, body with
  | .bay b, [n] =>
    match s.nameBound (.bay b) n.toNat with
    | .error e => (s, refuse e)
    | .ok x =>
      if x.record.state.isWash then (s.stopWash x.ref x.record .aborted, okay []) else (s, refuse .state)
  | _, _ => (s, refuse .format)

/-- CANCEL-WASH (R57). -/
def ownCancelWash (_ : Port) (body : List Byte) (s : State) : State × Reply :=
  match body with
  | [slot, n] =>
    match s.nameAtSlot slot.toNat n.toNat with
    | .error e => (s, refuse e)
    | .ok x =>
      if x.record.state.isWash then
        (s.stopWash x.ref x.record .cancelled, okay (byte1 x.record.state.code))
      else (s, refuse .state)
  | _ => (s, refuse .format)

/-! ## Timers -/

/-- The expiry of one of a wash unit's timers (R44): stopped, and the transition request expecting a state; not taken,
the timer stays stopped and nothing else changes. -/
def State.expire (s : State) (b : Bay) (runs : Bool) (stopped : WashUnit) (expected : CState) (n : Note) : State :=
  if runs then
    match (s.act.units[b]).active with
    | none => s.setUnit b stopped
    | some r =>
      match s.record r with
      | none => s.setUnit b stopped
      | some c => if c.state = expected then s.endWash b r c n else s.setUnit b stopped
  else s

/-- HANDOVER_TIMER_EXPIRY (R53). -/
def State.handoverExpiry (s : State) (b : Bay) : State :=
  let u := s.act.units[b]
  s.expire b u.handoverTimer.isSome { u with handoverTimer := none } .handover .handoverTimeout

/-- RE_ENTRY_TIMER_EXPIRY (R59). -/
def State.reEntryExpiry (s : State) (b : Bay) : State :=
  let u := s.act.units[b]
  s.expire b u.reEntryTimer.isSome { u with reEntryTimer := none } .queued .reEntryTimeout

/-- HOLD_TIMER_EXPIRY (R61). -/
def State.holdExpiry (s : State) (b : Bay) : State :=
  let u := s.act.units[b]
  s.expire b u.holdTimer.isSome { u with holdTimer := none } .held .holdExpired

/-- A wash unit's RUNNING compartment: its record, progress and current phase. -/
structure RunningWash where
  ref : RecordRef
  record : Compartment
  progress : Progress
  phase : Phase
deriving DecidableEq, Repr

/-- What a bay is running, if its wash unit's compartment is RUNNING. -/
def State.runningAt (s : State) (b : Bay) : Option RunningWash :=
  match (s.act.units[b]).active with
  | none => none
  | some r =>
    match s.record r with
    | none => none
    | some c =>
      match c.state, c.progress with
      | .running, some p => (s.phaseOf c p.phaseIndex).map (fun ph => ⟨r, c, p, ph⟩)
      | _, _ => none

/-- The running time after a tick (R42): one second more, up to the phase's max duration, where the timer expires. -/
def Progress.ticked (p : Progress) (maxDuration : Nat) : Progress :=
  { p with runningTime := if p.runningTime < maxDuration then p.runningTime + 1 else p.runningTime }

/-- PHASE_TIMER_TICK (R42). -/
def State.phaseTick (s : State) (b : Bay) : State :=
  match s.runningAt b with
  | none => s
  | some w =>
    if (s.act.units[b]).phaseTimer then
      s.setRecord w.ref (some { w.record with progress := some (w.progress.ticked w.phase.maxDuration) })
    else s

/-- The note of a phase timer expiry (R54). -/
def timeoutNote (m : PhaseMarks) : Note := if m.probe then .probeFault else .phaseTimeout

/-- PHASE_TIMER_EXPIRY (R54): it comes when the running time has reached the max duration. -/
def State.phaseExpiry (s : State) (b : Bay) : State :=
  match s.runningAt b with
  | none => s
  | some w =>
    if (s.act.units[b]).phaseTimer ∧ w.phase.maxDuration ≤ w.progress.runningTime then
      s.endWash b w.ref w.record (timeoutNote w.progress.marks)
    else s

/-! ## Holds -/

/-- The states a hold may be taken from (R60). -/
def CState.canHold : CState → Bool
  | .queued | .running | .handover => true
  | .dirty | .held | .washed | .released | .filling | .laden => false

/-- A record held (R60). -/
def Compartment.heldAt (c : Compartment) (p : Progress) (clock : Nat) : Compartment :=
  { c with
    state := .held
    progress := some { p with sharesHeld := 0, heldFrom := some c.state, heldSince := some clock } }

/-- A wash unit whose compartment is held: only the hold timer runs (R60). -/
def WashUnit.heldAt (u : WashUnit) (limit : Nat) : WashUnit :=
  { u.ended with handoverTimer := none, reEntryTimer := none, holdTimer := some limit }

/-- WASH_HOLD (R60): taken if the record is QUEUED, RUNNING or HANDOVER and the bay's hold set is non-empty. -/
def State.holdStep (s : State) (b : Bay) : State :=
  let u := s.act.units[b]
  match u.active with
  | none => s
  | some r =>
    match s.record r with
    | none => s
    | some c =>
      match c.progress with
      | none => s
      | some p =>
        if c.state.canHold ∧ (s.hold (.bay b)).nonEmpty then
          ((s.releaseLoop b r c).setUnit b (u.heldAt s.ret.holdLimit)).changeRecord r (c.heldAt p s.ret.clock)
        else s

/-- A held record gone back to HANDOVER (R62). -/
def Compartment.backToHandover (c : Compartment) (p : Progress) : Compartment :=
  { c with state := .handover, progress := some { p with heldFrom := none, heldSince := none } }

/-- WASH_RESUME (R62): taken if the record is HELD and the bay's hold set is empty; it goes on by its held-from
state. -/
def State.resumeStep (s : State) (b : Bay) : State :=
  let u := s.act.units[b]
  match u.active with
  | none => s
  | some r =>
    match s.record r with
    | none => s
    | some c =>
      match c.progress with
      | none => s
      | some p =>
        if c.state = .held ∧ (s.hold (.bay b)).nonEmpty = false then
          if p.heldFrom = some .handover then
            (s.setUnit b { u with holdTimer := none, handoverTimer := some s.ret.handoverLimit }).changeRecord r
              (c.backToHandover p)
          else
            match s.phaseOf c p.phaseIndex with
            | some ph => s.enterQueued b r c p ph
            | none => s
        else s

/-! ## The events' meanings -/

/-- PHASE_TIMER_TICK (R42). -/
def execPhaseTimerTick (b : Bay) (s : State) : Host.Outcome State Fault Refusal :=
  .next (whenPowered s (fun s => s.phaseTick b))

/-- PHASE_TIMER_EXPIRY (R54). -/
def execPhaseTimerExpiry (b : Bay) (s : State) : Host.Outcome State Fault Refusal :=
  .next (whenPowered s (fun s => s.phaseExpiry b))

/-- HANDOVER_TIMER_EXPIRY (R53). -/
def execHandoverTimerExpiry (b : Bay) (s : State) : Host.Outcome State Fault Refusal :=
  .next (whenPowered s (fun s => s.handoverExpiry b))

/-- RE_ENTRY_TIMER_EXPIRY (R59). -/
def execReEntryTimerExpiry (b : Bay) (s : State) : Host.Outcome State Fault Refusal :=
  .next (whenPowered s (fun s => s.reEntryExpiry b))

/-- HOLD_TIMER_EXPIRY (R61). -/
def execHoldTimerExpiry (b : Bay) (s : State) : Host.Outcome State Fault Refusal :=
  .next (whenPowered s (fun s => s.holdExpiry b))

/-- WASH_HOLD (R60). -/
def execWashHold (b : Bay) (s : State) : Host.Outcome State Fault Refusal :=
  .next (whenPowered s (fun s => s.holdStep b))

/-- WASH_RESUME (R62). -/
def execWashResume (b : Bay) (s : State) : Host.Outcome State Fault Refusal :=
  .next (whenPowered s (fun s => s.resumeStep b))

end Sys2Proof.Machine
end

