-- ==== Sys2Proof/Machine/Dose.lean ====
section
/-! DEFINITION. Dose accounting and the rinse endpoint (chapter 5). -/

namespace Sys2Proof.Machine

/-- The largest accrued dose (R92). -/
def maxDose : Nat := 16777215

/-- The effective demand of a phase: Q, or twice Q for a DEEP wash (R93). -/
def effectiveDemand (demand : Option Demand) (ph : Phase) : Nat :=
  if demand = some .deep then 2 * ph.demandQ else ph.demandQ

/-- The endpoint is met: none, or its count equals its qualifying number (R94, R96). -/
def endpointMet (ph : Phase) (count : Nat) : Bool :=
  match ph.endpoint with
  | none => true
  | some e => count == e.qualifying

/-- The completion test (R94). -/
def phaseMet (demand : Option Demand) (ph : Phase) (p : Progress) : Bool :=
  effectiveDemand demand ph ≤ p.dose && endpointMet ph p.endpointCount

/-- The pulse figure P of an interval (R86). -/
def pulseFigure (count : Nat) : Nat := min count 255

/-- The supply temperature if it is fresh: held, with an age below 2,000 ms (R88). -/
def freshSupply : Option Supply → Option Nat
  | none => none
  | some x => if x.age < 2000 then some x.value else none

/-- The excess E of a supply temperature over a floor, held at no more than 80 half-degrees (R90). -/
def excess (temperature floor : Nat) : Nat := min (temperature - floor) 80

/-- What a close adds and leaves (R87, R89, R91): the increment D, the new remainder, and whether it was stale. -/
structure Increment where
  dose : Nat
  remainder : Nat
  stale : Bool
deriving DecidableEq, Repr

/-- The increment of a close with volume V (R87, R89, R90, R91). -/
def increment (ph : Phase) (volume remainder : Nat) (supply : Option Supply) : Increment :=
  match ph.basis with
  | .volume => ⟨volume, remainder, false⟩
  | .thermal =>
    match freshSupply supply with
    | none => ⟨0, remainder, true⟩
    | some t =>
      let sum := volume * excess t ph.floor + remainder
      ⟨sum / 20, sum % 20, false⟩

/-- The progress after an interval close: A, R and the marks OVERRANGE and STALE (R86, R89, R92). -/
def Progress.closed (p : Progress) (ph : Phase) (u : WashUnit) : Progress :=
  let i := increment ph (pulseFigure u.intervalCount * u.intervalK.getD 0) p.remainder u.supply
  { p with
    dose := min (p.dose + i.dose) maxDose
    remainder := i.remainder
    marks := { p.marks with
      overrange := p.marks.overrange || decide (255 < u.intervalCount)
      stale := p.marks.stale || i.stale } }

/-- ACCOUNTING_INTERVAL_CLOSE (R92): the update, the completion test on the record as it then stands, and the next
interval if the compartment is still RUNNING (R84). -/
def State.closeInterval (s : State) (b : Bay) : State :=
  let u := s.act.units[b]
  match s.runningAt b with
  | none => s
  | some w =>
    if u.intervalTimer then
      let p := w.progress.closed w.phase u
      if phaseMet w.record.demand w.phase p then
        s.completePhase b w.ref w.record p w.phase
      else
        (s.setRecord w.ref (some { w.record with progress := some p })).setUnit b
          { u with intervalCount := 0, intervalK := some (s.ret.meterConstant (.bay b)) }
    else s

/-- The endpoint count after a sample; `none` is a faulty one (R95). -/
def countAfter (e : Endpoint) (hysteresis count : Nat) : Option Nat → Nat
  | none => 0
  | some v =>
    if v ≤ e.limit then min (count + 1) e.qualifying
    else if e.limit + hysteresis < v then 0
    else count

/-- A wash unit after a sample applied: its endpoint counter follows R95, and a good sample becomes the last endpoint
sample (R97). -/
def WashUnit.sampled (u : WashUnit) (e : Endpoint) (hysteresis : Nat) (sample : Option Nat) : WashUnit :=
  { u with
    lastSample := sample.or u.lastSample
    endpointCounter := countAfter e hysteresis u.endpointCounter sample }

/-- The progress after a sample applied: the wash unit's counter writes the endpoint count (R42, R64), and a faulty
sample sets PROBE (R95). -/
def Progress.sampled (p : Progress) (count : Nat) (sample : Option Nat) : Progress :=
  { p with
    endpointCount := count
    marks := { p.marks with probe := p.marks.probe || sample.isNone } }

/-- A conductivity sample delivered to a bay's wash unit: applied when its compartment is RUNNING in a phase with an
endpoint, with the completion test in the same update, and not applied otherwise (R95, R97). -/
def State.conductivitySample (s : State) (b : Bay) (sample : Option Nat) : State :=
  match s.runningAt b with
  | none => s
  | some w =>
    match w.phase.endpoint with
    | none => s
    | some e =>
      let u := (s.act.units[b]).sampled e s.ret.hysteresis sample
      let p := w.progress.sampled u.endpointCounter sample
      let s' := s.setUnit b u
      if phaseMet w.record.demand w.phase p then
        s'.completePhase b w.ref w.record p w.phase
      else
        s'.setRecord w.ref (some { w.record with progress := some p })

/-- A pulse of a bay's meter given to its wash unit (R85). -/
def State.bayPulse (s : State) (b : Bay) : State :=
  let u := s.act.units[b]
  match s.runningAt b with
  | none => s
  | some _ => s.setUnit b { u with intervalCount := min (u.intervalCount + 1) 1000 }

/-- ACCOUNTING_INTERVAL_CLOSE (R92). -/
def execAccountingIntervalClose (b : Bay) (s : State) : Host.Outcome State Fault Refusal :=
  .next (whenPowered s (fun s => s.closeInterval b))

end Sys2Proof.Machine
end

