-- ==== Sys2Proof/Machine/Operands.lean ====
section
/-! DEFINITION. Reading request bodies: numbered fields, tokens, the body of ADMIT, phase records, route entries; and
the forms in which the same records are sent back (chapters 1, 2, 9). A reader answers `none` for a field outside the
range its entry gives, which the owner answers RANGE, unless its docstring says otherwise. -/

namespace Sys2Proof.Machine

/-- A class of a number, 1 to 48 (R21). -/
def classOf (n : Nat) : Option ClassNo := if h : 1 ≤ n ∧ n ≤ 48 then some ⟨n - 1, by omega⟩ else none

/-- A program of a number, 1 to 16 (R28). -/
def programOf (n : Nat) : Option ProgramNo := if h : 1 ≤ n ∧ n ≤ 16 then some ⟨n - 1, by omega⟩ else none

/-- A residue group of a number, 0 to 11 (R25). -/
def groupOf (n : Nat) : Option Group := if h : n ≤ 11 then some ⟨n, by omega⟩ else none

/-- A field line of a number, 0 to 15 (R147). -/
def lineOf (n : Nat) : Option Line := if h : n ≤ 15 then some ⟨n, by omega⟩ else none

/-- A bay of a number, 1 to 4. -/
def bayOf (n : Nat) : Option Bay := if h : 1 ≤ n ∧ n ≤ 4 then some ⟨n - 1, by omega⟩ else none

/-- A position of a number: 1 to 4 the bays, 5 the rack (RESUME). -/
def positionOf (n : Nat) : Option Position := if n = 5 then some .rack else (bayOf n).map Position.bay

/-! ## Tokens -/

/-- A to Z or 0 to 9, as the ASCII code of the character (log entry 5). -/
def isTokenChar (b : Byte) : Bool :=
  (65 ≤ b.toNat && b.toNat ≤ 90) || (48 ≤ b.toNat && b.toNat ≤ 57)

/-- The space that fills unused trailing positions of a token, as its ASCII code (log entry 5). -/
def space : Byte := 32#8

/-- The token in eight characters: 1 to 8 token characters followed only by spaces (R9). -/
def tokenOf (bs : List Byte) : Option (List Byte) :=
  let token := bs.takeWhile isTokenChar
  let rest := bs.dropWhile isTokenChar
  if token ≠ [] ∧ rest.all (· == space) then some token else none

/-- A token as eight characters with trailing spaces (READ-TANKER). -/
def tokenBytes (t : List Byte) : List Byte := t ++ List.replicate (8 - t.length) space

/-! ## ADMIT -/

/-- A compartment as ADMIT sends it: capacity and the history's class numbers, newest first. -/
structure SentCompartment where
  capacity : Nat
  history : List Nat
deriving DecidableEq, Repr

/-- The compartments of an ADMIT body, n of them, filling the rest of the body exactly; otherwise FORMAT (R9). -/
def sentCompartments : Nat → List Byte → Option (List SentCompartment)
  | 0, [] => some []
  | 0, _ :: _ => none
  | n + 1, c1 :: c2 :: h :: rest =>
    if h.toNat ≤ rest.length then
      (sentCompartments n (rest.drop h.toNat)).map
        (fun cs => ⟨number [c1, c2], (rest.take h.toNat).map BitVec.toNat⟩ :: cs)
    else none
  | _ + 1, _ => none

/-- A compartment's fields in range: history of at most 3 classes numbered 1 to 48, capacity 500 to 30,000 (R9). -/
def SentCompartment.history? (c : SentCompartment) : Option (List ClassNo) :=
  if c.history.length ≤ 3 ∧ 500 ≤ c.capacity ∧ c.capacity ≤ 30000 then c.history.mapM classOf else none

/-- An ADMIT's compartments in range: each its capacity and history (R9). -/
def admittedCompartments (cs : List SentCompartment) : Option (List (Nat × List ClassNo)) :=
  cs.mapM (fun c => c.history?.map (fun h => (c.capacity, h)))

/-! ## Cargo rules -/

/-- A grade of a code 1 to 3 (R22). -/
def gradeOf : Nat → Option Grade
  | 1 => some .food
  | 2 => some .feed
  | 3 => some .technical
  | _ => none

/-- A cell of a code 0 to 3 (R26). -/
def cellOf : Nat → Option Cell
  | 0 => some .noWash
  | 1 => some .wash
  | 2 => some .deep
  | 3 => some .barred
  | _ => none

/-- A row of twelve cells (R26). -/
def cellRow (bs : List Byte) : Option (Vector Cell 12) :=
  match bs.mapM (fun b => cellOf b.toNat) with
  | none => none
  | some cs => if h : cs.length = 12 then some ⟨⟨cs⟩, by simpa using h⟩ else none

/-- A phase kind of a code (R29). -/
def phaseKindOf : Nat → Option PhaseKind
  | 1 => some .preRinse
  | 2 => some .detergent
  | 3 => some .hotRinse
  | 4 => some .finalRinse
  | _ => none

/-- A basis of a code (R29). -/
def basisOf : Nat → Option Basis
  | 1 => some .thermal
  | 2 => some .volume
  | _ => none

/-- A filter figure or a qualifying number is one of 1, 2, 4, 8 (R28, R148). -/
def isOneTwoFourEight (n : Nat) : Bool := n == 1 || n == 2 || n == 4 || n == 8

/-- An endpoint of its flag, limit and qualifying number; with the flag 0 the other two are not checked (R29). The
outer `none` is RANGE. -/
def endpointOf (flag limit qualifying : Nat) : Option (Option Endpoint) :=
  if flag = 0 then some none
  else if flag = 1 ∧ limit ≤ 2042 ∧ isOneTwoFourEight qualifying then some (some ⟨limit, qualifying⟩)
  else none

/-- The numeric fields of a phase are in range (R28, R29). -/
def phaseNumbersInRange (q floor shares maxDuration low high : Nat) : Bool :=
  1 ≤ q && q ≤ 8000000 && floor ≤ 190 && 1 ≤ shares && shares ≤ 4 && 60 ≤ maxDuration && maxDuration ≤ 7200
    && low ≤ 4095 && low ≤ high && high ≤ 4095

/-- A phase record of its 18 bytes (2.3, R29). -/
def phaseOfBytes : List Byte → Option Phase
  | [k, b, q1, q2, q3, f, d, m1, m2, e, l1, l2, n, lo1, lo2, hi1, hi2, st] =>
    match phaseKindOf k.toNat, basisOf b.toNat, endpointOf e.toNat (number [l1, l2]) n.toNat with
    | some kind, some basis, some endpoint =>
      if phaseNumbersInRange (number [q1, q2, q3]) f.toNat d.toNat (number [m1, m2]) (number [lo1, lo2])
          (number [hi1, hi2]) then
        some ⟨kind, basis, number [q1, q2, q3], f.toNat, d.toNat, number [m1, m2], endpoint,
          number [lo1, lo2], number [hi1, hi2], st.toNat⟩
      else none
    | _, _, _ => none
  | _ => none

/-- The n phase records of a program body (R29). -/
def phasesOfBytes : Nat → List Byte → Option (List Phase)
  | 0, _ => some []
  | n + 1, bs =>
    match phaseOfBytes (bs.take 18), phasesOfBytes n (bs.drop 18) with
    | some ph, some rest => some (ph :: rest)
    | _, _ => none

/-- A phase record as WRITE-PROGRAM sends it, an absent endpoint with L and N as 0 (R31). -/
def Phase.bytes (ph : Phase) : List Byte :=
  byte1 ph.kind.code ++ byte1 ph.basis.code ++ byte3 ph.demandQ ++ byte1 ph.floor ++ byte1 ph.shares
    ++ byte2 ph.maxDuration
    ++ (match ph.endpoint with
      | none => byte1 0 ++ byte2 0 ++ byte1 0
      | some e => byte1 1 ++ byte2 e.limit ++ byte1 e.qualifying)
    ++ byte2 ph.sweepLow ++ byte2 ph.sweepHigh ++ byte1 ph.sweepStep

/-! ## Routes -/

/-- The action of a code and a bay number; the bay is checked for HOLD-BAY only (R154). -/
def actionOf (code bay : Nat) : Option Action :=
  match code with
  | 0 => some .note
  | 1 => (bayOf bay).map Action.holdBay
  | 2 => some .holdAll
  | 3 => some .stopRack
  | 4 => some .blockGrants
  | _ => none

/-- The code of an action (9.5). -/
def Action.code : Action → Nat
  | .note => 0
  | .holdBay _ => 1
  | .holdAll => 2
  | .stopRack => 3
  | .blockGrants => 4

/-- The notify set of its byte: port 1 the lowest bit, no other flag than those of ports 1 to 6 (R154, 10.6). -/
def notifyOf (b : Byte) : Option PortSet :=
  if b.toNat < 64 then
    some #v[b.getLsbD 0, b.getLsbD 1, b.getLsbD 2, b.getLsbD 3, b.getLsbD 4, b.getLsbD 5]
  else none

/-- A route entry of the seven bytes after the line (R154). -/
def routeOf (mask polarity trigger action bay notify filterN : Byte) : Option Route :=
  if mask.toNat ≤ 1 ∧ polarity.toNat ≤ 1 ∧ trigger.toNat ≤ 1 ∧ isOneTwoFourEight filterN.toNat then
    match actionOf action.toNat bay.toNat, notifyOf notify with
    | some a, some ports =>
      some ⟨mask.toNat == 1, if polarity.toNat = 0 then .activeLow else .activeHigh,
        if trigger.toNat = 0 then .edge else .level, a, ports, filterN.toNat⟩
    | _, _ => none
  else none

end Sys2Proof.Machine
end

