-- ==== Sys2Proof/Machine/CargoRules.lean ====
section
/-! DEFINITION. The cargo rules (chapter 2): the three tables' requests, the assessment, and SET-INTENT. As in
WashCycle.lean, an owner's last arm cannot be met after the common checks. -/

namespace Sys2Proof.Machine

/-! ## The class table -/

/-- A record names a class in its history, its intent or its release (R22, R24). -/
def Compartment.names (k : ClassNo) (c : Compartment) : Bool :=
  c.history.contains k || c.intent == some k || (c.release.map (·.releasedFor)) == some k

/-- Write one class entry (R22). -/
def State.setClass (s : State) (k : ClassNo) (d : Option ClassDef) : State :=
  { s with ret := { s.ret with classes := s.ret.classes.set k d } }

/-- WRITE-CLASS (R22). -/
def ownWriteClass (_ : Port) (body : List Byte) (s : State) : State × Reply :=
  match body with
  | [c, g, grp, prog] =>
    match classOf c.toNat with
    | none => (s, refuse .range)
    | some k =>
      if g.toNat = 0 then
        if s.anyRecord (Compartment.names k) then (s, refuse .busy) else (s.setClass k none, okay [])
      else
        match gradeOf g.toNat, groupOf grp.toNat, programOf prog.toNat with
        | some grade, some group, some program => (s.setClass k (some ⟨grade, group, program⟩), okay [])
        | _, _, _ => (s, refuse .range)
  | _ => (s, refuse .format)

/-- A class entry as READ-CLASS sends it, an undefined one as zeroes (R24). -/
def classBytes : Option ClassDef → List Byte
  | none => byte1 0 ++ byte1 0 ++ byte1 0
  | some d => byte1 d.grade.code ++ byte1 d.group.val ++ byte1 (d.program.val + 1)

/-- READ-CLASS (R24). -/
def ownReadClass (_ : Port) (body : List Byte) (s : State) : State × Reply :=
  match body with
  | [c] =>
    match classOf c.toNat with
    | none => (s, refuse .range)
    | some k => (s, okay (classBytes s.ret.classes[k] ++ byte1 (s.countRecords (Compartment.names k))))
  | _ => (s, refuse .format)

/-! ## The follow matrix -/

/-- WRITE-FOLLOW (R26). -/
def ownWriteFollow (_ : Port) (body : List Byte) (s : State) : State × Reply :=
  match body with
  | f :: cells =>
    if cells.length ≠ 12 then (s, refuse .format)
    else
      match groupOf f.toNat, cellRow cells with
      | some g, some row =>
        ({ s with ret := { s.ret with follow := s.ret.follow.set g row } }, okay [])
      | _, _ => (s, refuse .range)
  | [] => (s, refuse .format)

/-- READ-FOLLOW (R27). -/
def ownReadFollow (_ : Port) (body : List Byte) (s : State) : State × Reply :=
  match body with
  | [f] =>
    match groupOf f.toNat with
    | none => (s, refuse .range)
    | some g => (s, okay ((s.ret.follow[g]).toList.flatMap (fun c => byte1 c.code)))
  | _ => (s, refuse .format)

/-! ## The program table -/

/-- A record washes under a program (R29, R31). -/
def Compartment.washesUnder (k : ProgramNo) (c : Compartment) : Bool :=
  c.state.isWash && c.program == some k

/-- Write one program's phase list (R30). -/
def State.setProgram (s : State) (k : ProgramNo) (phs : List Phase) : State :=
  { s with ret := { s.ret with programs := s.ret.programs.set k phs } }

/-- WRITE-PROGRAM (R29, R30). -/
def ownWriteProgram (_ : Port) (body : List Byte) (s : State) : State × Reply :=
  match body with
  | k :: n :: rest =>
    if rest.length ≠ 18 * n.toNat then (s, refuse .format)
    else if 8 < n.toNat then (s, refuse .range)
    else
      match programOf k.toNat, phasesOfBytes n.toNat rest with
      | some prog, some phs =>
        if s.anyRecord (Compartment.washesUnder prog) then (s, refuse .busy)
        else (s.setProgram prog phs, okay [])
      | _, _ => (s, refuse .range)
  | _ => (s, refuse .format)

/-- READ-PROGRAM (R31). -/
def ownReadProgram (_ : Port) (body : List Byte) (s : State) : State × Reply :=
  match body with
  | [k] =>
    match programOf k.toNat with
    | none => (s, refuse .range)
    | some prog =>
      (s, okay (byte1 (s.ret.programs[prog]).length
        ++ byte1 (s.countRecords (Compartment.washesUnder prog))
        ++ (s.ret.programs[prog]).flatMap Phase.bytes))
  | _ => (s, refuse .format)

/-! ## The assessment -/

/-- What an assessment comes to (R34 to R37). -/
inductive Assessment where
  | undefinedClass
  | barred (by_ : ClassNo)
  | emptyProgram
  | demands (d : Demand) (program : Option ProgramNo)
deriving DecidableEq, Repr

/-- The cell read for a history class against the intent's group (R34). Every class a record names is defined (R23);
the arm for an undefined one, which reads NONE, is never met from reset. -/
def Retained.cellFor (r : Retained) (toGroup : Group) (k : ClassNo) : Cell :=
  match r.classes[k] with
  | some d => (r.follow[d.group])[toGroup]
  | none => .noWash

/-- The stronger of two cells (R25). -/
def Cell.stronger (a b : Cell) : Cell := if a.code < b.code then b else a

/-- The strongest cell over a history (R34). -/
def Retained.strongest (r : Retained) (toGroup : Group) (history : List ClassNo) : Cell :=
  history.foldl (fun a k => a.stronger (r.cellFor toGroup k)) .noWash

/-- A history class is TECHNICAL (R35). -/
def Retained.technicalIn (r : Retained) (history : List ClassNo) : Bool :=
  history.any (fun k => (r.classes[k]).map (·.grade) == some .technical)

/-- The demand a cell that is not BARRED asks for (R34). -/
def Cell.demand : Cell → Demand
  | .noWash => .noWash
  | .wash => .wash
  | .deep | .barred => .deep

/-- The grade raise (R35). -/
def gradeRaise (intent : Grade) (technical : Bool) (d : Demand) : Demand :=
  if technical then
    match intent, d with
    | .food, _ => .deep
    | .feed, .noWash => .wash
    | .feed, .wash => .wash
    | .feed, .deep => .deep
    | .technical, d => d
  else d

/-- The demand with its program, refused when the program is empty (R36). -/
def Retained.withProgram (r : Retained) (d : Demand) (program : Option ProgramNo) : Assessment :=
  match d with
  | .noWash => .demands .noWash none
  | .wash | .deep =>
    match program with
    | none => .emptyProgram
    | some k => if r.programs[k] = [] then .emptyProgram else .demands d (some k)

/-- The assessment of an intent against a history (R34, R35, R36). -/
def Retained.assess (r : Retained) (history : List ClassNo) (intent : ClassNo) : Assessment :=
  match r.classes[intent] with
  | none => .undefinedClass
  | some d =>
    match history with
    | [] => r.withProgram .wash (some d.program)
    | newest :: _ =>
      match history.find? (fun k => r.cellFor d.group k == .barred) with
      | some k => .barred k
      | none =>
        r.withProgram (gradeRaise d.grade (r.technicalIn history) (r.strongest d.group history).demand)
          ((r.classes[newest]).map (·.program))

/-! ## SET-INTENT -/

/-- The states a SET-INTENT acts in (R37). -/
def CState.canTarget : CState → Bool
  | .dirty | .washed | .released => true
  | .queued | .running | .handover | .held | .filling | .laden => false

/-- A record with a new intent, demand and program, its note cleared (R37). -/
def Compartment.targeted (c : Compartment) (k : ClassNo) (d : Demand) (program : Option ProgramNo) : Compartment :=
  { c with note := none, intent := some k, demand := some d, program := program }

/-- The new demand is covered by the wash performed (R39). -/
def Compartment.covers (c : Compartment) (d : Demand) : Bool :=
  match c.summary with
  | some w => d.code ≤ w.kind.code
  | none => false

/-- A record after a taken SET-INTENT, by its state (R38, R39, R40). -/
def Compartment.retargeted (c : Compartment) (k : ClassNo) (d : Demand) (program : Option ProgramNo) : Compartment :=
  let t := c.targeted k d program
  match c.state with
  | .dirty =>
    if d = .noWash then { t with state := .washed, summary := some ⟨.noWash, [], none⟩ } else t
  | .released =>
    if c.covers d then { t with state := .washed, release := none }
    else { t with state := .dirty, release := none, summary := none }
  | _ => if c.covers d then t else { t with state := .dirty, summary := none }

/-- SET-INTENT's change: handed to the notice store where the state changes (R37). -/
def State.retarget (s : State) (x : Named) (k : ClassNo) (d : Demand) (program : Option ProgramNo) : State :=
  let c := x.record.retargeted k d program
  if c.state = x.record.state then s.setRecord x.ref (some c) else s.changeRecord x.ref c

/-- SET-INTENT's own checks and change on a resolved compartment (R37). -/
def setIntentOn (x : Named) (intent : Nat) (s : State) : State × Reply :=
  match classOf intent with
  | none => (s, refuse .range)
  | some k =>
    if x.record.state.canTarget = false then (s, refuse .state)
    else
      match s.ret.assess x.record.history k with
      | .undefinedClass => (s, refuse .cargoClass)
      | .barred by_ => (s, ⟨.barred, byte1 (classNumber by_)⟩)
      | .emptyProgram => (s, refuse .cargoClass)
      | .demands d program =>
        (s.retarget x k d program,
          okay (byte1 (x.record.retargeted k d program).state.code ++ byte1 d.code
            ++ byte1 (programNumber program)))

/-- SET-INTENT (R37). -/
def ownSetIntent (_ : Port) (body : List Byte) (s : State) : State × Reply :=
  match body with
  | [slot, n, k] =>
    match s.nameAtSlot slot.toNat n.toNat with
    | .error e => (s, refuse e)
    | .ok x => setIntentOn x k.toNat s
  | _ => (s, refuse .format)

end Sys2Proof.Machine
end

