-- ==== Sys2Proof/Machine/Inspection.lean ====
section
/-! DEFINITION. Inspection, release and certificates (chapter 7), the release timer and the yard clock (R172). As in
WashCycle.lean, an owner's last arm cannot be met after the common checks. -/

namespace Sys2Proof.Machine

/-- The certificate counter after a pass (R119). -/
def nextCertificate (n : Nat) : Nat := if n = maxCertificate then 1 else n + 1

/-- The deadline of a release: stamp plus lifetime in hours, held at the clock's maximum (R124). -/
def deadlineFor (stamp lifetime : Nat) : Nat := min (stamp + lifetime * 3600) maxClock

/-- A release is overdue when its deadline is at or below the clock (R124). -/
def Release.overdue (x : Release) (clock : Nat) : Bool := x.deadline ≤ clock

/-- A record is RELEASED with an overdue release (R125). -/
def Compartment.overdue (clock : Nat) (c : Compartment) : Bool :=
  c.state == .released && (match c.release with | some x => x.overdue clock | none => false)

/-! ## Passing and failing -/

/-- The release an INSPECT-PASS writes (R121). -/
def Retained.newRelease (r : Retained) (k : ClassNo) (inspector : Nat) : Release :=
  ⟨r.certificate, k, r.clock, deadlineFor r.clock r.releaseLifetime, inspector⟩

/-- Advance the certificate counter (R119). -/
def State.advanceCertificate (s : State) : State :=
  { s with ret := { s.ret with certificate := nextCertificate s.ret.certificate } }

/-- INSPECT-PASS's own checks and change (R120, R121). A WASHED record has an intent (R4); the last arm, for one
without, is never met from reset. -/
def inspectPassOn (x : Named) (inspector : Nat) (s : State) : State × Reply :=
  if inspector = 0 ∨ 9999 < inspector then (s, refuse .range)
  else if x.record.state ≠ .washed then (s, refuse .state)
  else
    match x.record.intent with
    | some k =>
      let rel := s.ret.newRelease k inspector
      (s.advanceCertificate.changeRecord x.ref { x.record with state := .released, release := some rel },
        okay (byte3 rel.certificate ++ byte1 (classNumber k) ++ byte4 rel.deadline))
    | none => (s, refuse .state)

/-- INSPECT-PASS (R120, R121). -/
def ownInspectPass (p : Port) (body : List Byte) (s : State) : State × Reply :=
  match p, body with
  | .bay b, [n, i1, i2] =>
    match s.nameBound (.bay b) n.toNat with
    | .error e => (s, refuse e)
    | .ok x => inspectPassOn x (number [i1, i2]) s
  | _, _ => (s, refuse .format)

/-- The program of a class as the class table defines it (R123). -/
def Retained.programOfClass (r : Retained) (k : ClassNo) : Option ProgramNo := (r.classes[k]).map (·.program)

/-- The program an upgraded demand of NONE takes: of the newest history class, or of the intent with an empty
history (R123). -/
def Retained.upgradeProgram (r : Retained) (c : Compartment) : Option ProgramNo :=
  match c.history with
  | newest :: _ => r.programOfClass newest
  | [] => c.intent.bind r.programOfClass

/-- A record failed at inspection, its demand upgraded when the flag is set (R122, R123). -/
def Retained.failed (r : Retained) (c : Compartment) (upgrade : Bool) : Compartment :=
  let f := { c with state := .dirty, note := some .inspectFailed, summary := none }
  if upgrade then
    { f with
      demand := some .deep
      program := if asksWash c.demand then c.program else r.upgradeProgram c }
  else f

/-- INSPECT-FAIL's own checks and change (R122, R123). -/
def inspectFailOn (x : Named) (flag : Nat) (s : State) : State × Reply :=
  if 1 < flag then (s, refuse .range)
  else if x.record.state ≠ .washed then (s, refuse .state)
  else
    let c := s.ret.failed x.record (flag == 1)
    (s.changeRecord x.ref c,
      okay (byte1 (match c.demand with | some d => d.code | none => 0) ++ byte1 (programNumber c.program)))

/-- INSPECT-FAIL (R122, R123). -/
def ownInspectFail (p : Port) (body : List Byte) (s : State) : State × Reply :=
  match p, body with
  | .bay b, [n, f] =>
    match s.nameBound (.bay b) n.toNat with
    | .error e => (s, refuse e)
    | .ok x => inspectFailOn x f.toNat s
  | _, _ => (s, refuse .format)

/-! ## Lapse and void -/

/-- A lapsed record (R126). -/
def Compartment.lapsed (c : Compartment) : Compartment :=
  { c with state := .dirty, note := some .lapsed, release := none, summary := none }

/-- A lapse: a transition request expecting RELEASED (R126). -/
def State.lapse (s : State) (r : RecordRef) : State := s.transition r [.released] Compartment.lapsed

/-- The overdue RELEASED records (R125). -/
def State.overdueSet (s : State) : RefSet :=
  mapTable (fun o => match o with | some c => c.overdue s.ret.clock | none => false) s.ret.pool

/-- Lapse every overdue RELEASED record, as the first check does in OPEN-YARD's step (R125, R173). -/
def State.lapseAll (s : State) : State := (membersOf s.overdueSet).foldl State.lapse s

/-- RELEASE_TIMER_CHECK (R125): while the timer runs, a lapse is sent for each overdue RELEASED record; one
whose lapse is still on its way has no second (DESIGN CHOICE, log entry 9). -/
def State.timerCheck (s : State) : State :=
  if s.act.releaseTimer then
    { s with act := { s.act with
      lapsesDue := ⟨⟨List.zipWith (· || ·) s.act.lapsesDue.toList s.overdueSet.toList⟩, by simp⟩ } }
  else s

/-- RELEASE_LAPSE (R126): a lapse the timer sent reaches the yard table. -/
def State.lapseStep (s : State) (r : RecordRef) : State :=
  if s.act.lapsesDue[r] then
    { s with act := { s.act with lapsesDue := s.act.lapsesDue.set r false } }.lapse r
  else s

/-- VOID-RELEASE (R127). -/
def ownVoidRelease (_ : Port) (body : List Byte) (s : State) : State × Reply :=
  match body with
  | [slot, n] =>
    match s.nameAtSlot slot.toNat n.toNat with
    | .error e => (s, refuse e)
    | .ok x =>
      if x.record.state ≠ .released then (s, refuse .state)
      else
        (s.changeRecord x.ref { x.record with state := .washed, note := some .voided, release := none },
          okay (byte3 (match x.record.release with | some rel => rel.certificate | none => 0)))
  | _ => (s, refuse .format)

/-! ## The yard clock -/

/-- A deadline shifted with the clock, held in the clock's range (R128). -/
def shiftDeadline (deadline clock reading : Nat) : Nat :=
  min ((deadline : Int) + ((reading : Int) - (clock : Int))).toNat maxClock

/-- A record's release with its deadline shifted (R128). -/
def Compartment.shifted (clock reading : Nat) (c : Compartment) : Compartment :=
  { c with release := c.release.map (fun x => { x with deadline := shiftDeadline x.deadline clock reading }) }

/-- The yard clock set, carrying every release deadline with it (R128). -/
def State.setClockTo (s : State) (reading : Nat) : State :=
  { s with ret := { s.ret with
    clock := reading
    pool := mapTable (fun o => o.map (Compartment.shifted s.ret.clock reading)) s.ret.pool } }

/-- SET-CLOCK (R128). -/
def ownSetClock (_ : Port) (body : List Byte) (s : State) : State × Reply :=
  match body with
  | [c1, c2, c3, c4] => (s.setClockTo (number [c1, c2, c3, c4]), okay (byte4 s.ret.clock))
  | _ => (s, refuse .format)

/-- YARD_CLOCK_SECOND (R172): one second more, stopping at the maximum, whether main power is on or off; without a
valid marker the retained domain holds no clock to count (R169). -/
def State.clockSecond (s : State) : State :=
  if s.ret.markerValid then { s with ret := { s.ret with clock := min (s.ret.clock + 1) maxClock } } else s

/-! ## The events' meanings -/

/-- RELEASE_TIMER_CHECK (R125). -/
def execReleaseTimerCheck (s : State) : Host.Outcome State Fault Refusal := .next (whenPowered s State.timerCheck)

/-- RELEASE_LAPSE (R126). -/
def execReleaseLapse (r : RecordRef) (s : State) : Host.Outcome State Fault Refusal :=
  .next (whenPowered s (fun s => s.lapseStep r))

/-- YARD_CLOCK_SECOND (R172). -/
def execYardClockSecond (s : State) : Host.Outcome State Fault Refusal := .next s.clockSecond

end Sys2Proof.Machine
end

