-- ==== Sys2Proof/Machine/Filling.lean ====
section
/-! DEFINITION. Filling at the rack (chapter 8): opening, counting and closing a fill, and EMPTIED. As in
WashCycle.lean, an owner's last arm cannot be met after the common checks. -/

namespace Sys2Proof.Machine

/-- The largest counted volume, in decilitres (R135). -/
def maxCounted : Nat := 999999

/-- The idle rack fill unit (R132). -/
def FillUnit.idle : FillUnit := ⟨none, false⟩

/-! ## FILL-START -/

/-- The fill part FILL-START creates (R134). -/
def newFill (k : ClassNo) (preset capacity : Nat) : Fill :=
  ⟨k, min preset capacity, 0, none, ⟨decide (capacity < preset), false, false, false, false, false, false⟩⟩

/-- FILL-START's change (R134). -/
def State.openFill (s : State) (x : Named) (k : ClassNo) (preset : Nat) : State :=
  (s.setFillUnit ⟨some x.ref, false⟩).changeRecord x.ref
    { x.record with state := .filling, fill := some (newFill k preset x.record.capacity) }

/-- FILL-START's own checks and change (R133, R134). Only the LAPSED check changes anything. -/
def fillStartOn (x : Named) (cargo preset : Nat) (s : State) : State × Reply :=
  if (s.hold .rack).nonEmpty then (s, refuse .held)
  else if s.anyRecord (fun c => c.state == .filling) then (s, refuse .busy)
  else
    match x.record.state, x.record.release with
    | .released, some rel =>
      if rel.overdue s.ret.clock then (s.lapse x.ref, refuse .lapsed)
      else if classOf cargo ≠ some rel.releasedFor then (s, refuse .cargoClass)
      else if preset = 0 then (s, refuse .range)
      else
        (s.openFill x rel.releasedFor preset,
          okay (byte2 (min preset x.record.capacity) ++ byteFlag (decide (x.record.capacity < preset))
            ++ byte2 x.record.capacity ++ byte3 rel.certificate))
    | _, _ => (s, refuse .state)

/-- FILL-START (R133, R134). -/
def ownFillStart (p : Port) (body : List Byte) (s : State) : State × Reply :=
  match p, body with
  | .rack, [n, k, p1, p2] =>
    match s.nameBound .rack n.toNat with
    | .error e => (s, refuse e)
    | .ok x => fillStartOn x k.toNat (number [p1, p2]) s
  | _, _ => (s, refuse .format)

/-! ## Counting -/

/-- What a rack pulse does to a fill (R135, R136, R138): the fill after it, whether PRESET-REACHED or OVERFILL was
newly set, and whether OVERFILL was. -/
structure Counted where
  fill : Fill
  marked : Bool
  overfilled : Bool
deriving DecidableEq, Repr

/-- A rack pulse counted into a fill; `holdEmpty` says that the rack's hold set is empty (R135, R136, R138). -/
def Fill.pulse (f : Fill) (constant capacity : Nat) (holdEmpty : Bool) : Counted :=
  let counted := min (f.counted + constant) maxCounted
  let reached := decide (f.preset * 10 ≤ counted) && !f.marks.presetReached
  let overfilled := decide (capacity * 10 < counted) && !f.marks.overfill
  ⟨{ f with
      counted := counted
      marks := { f.marks with
        presetReached := f.marks.presetReached || reached
        overfill := f.marks.overfill || overfilled
        stopped := f.marks.stopped || (overfilled && holdEmpty) } },
    reached || overfilled, overfilled⟩

/-- The cause OVERFILL joins the rack's hold set (R138). -/
def State.joinOverfill (s : State) : State := s.setHold .rack { s.hold .rack with overfill := true }

/-- A pulse of the rack meter given to the rack fill unit (R135): discarded while the unit is idle or its compartment
has left FILLING; handed to the notice store only when it sets a mark. -/
def State.rackPulse (s : State) : State :=
  match s.act.fillUnit.active with
  | none => s
  | some r =>
    match s.record r with
    | none => s
    | some c =>
      match c.state, c.fill with
      | .filling, some f =>
        let x := f.pulse (s.ret.meterConstant .rack) c.capacity (!(s.hold .rack).nonEmpty)
        let s1 := if x.overfilled then s.joinOverfill else s
        let c' := { c with fill := some x.fill }
        if x.marked then s1.changeRecord r c' else s1.setRecord r (some c')
      | _, _ => s

/-- A record marked STOPPED (R137). -/
def Compartment.stopped (c : Compartment) : Compartment :=
  { c with fill := c.fill.map (fun f => { f with marks := { f.marks with stopped := true } }) }

/-- FILL_STOPPED_MARK (R137): the update the unit has sent reaches the yard table, expecting FILLING. -/
def State.stoppedStep (s : State) : State :=
  if s.act.fillUnit.stopDue then
    let s1 := s.setFillUnit { s.act.fillUnit with stopDue := false }
    match s.act.fillUnit.active with
    | none => s1
    | some r => s1.transition r [.filling] Compartment.stopped
  else s

/-! ## Closing -/

/-- The tolerance of a FILL-END (R140). -/
def tolerance (counted : Nat) : Nat := max (counted / 200) 200

/-- The difference of a report in litres from a count in decilitres, without its sign (R140). -/
def difference (counted reported : Nat) : Nat := (reported * 10 - counted) + (counted - reported * 10)

/-- A report is out of tolerance (R140). -/
def mismatch (counted reported : Nat) : Bool := decide (tolerance counted < difference counted reported)

/-- A record gone from FILLING to LADEN with its fill closed (R139, R142, R20). -/
def Compartment.ladenWith (c : Compartment) (f : Fill) : Compartment :=
  { c with
    state := .laden
    history := pushHistory f.cargo c.history
    intent := none
    demand := none
    program := none
    fill := some f }

/-- A fill reported (R139, R140). -/
def Fill.reportedAs (f : Fill) (litres : Nat) : Fill :=
  { f with
    reported := some litres
    marks := { f.marks with mismatch := f.marks.mismatch || mismatch f.counted litres } }

/-- A fill abandoned with something counted (R142). -/
def Fill.abandoned (f : Fill) : Fill := { f with marks := { f.marks with aborted := true } }

/-- FILL-END's own check and change (R139). -/
def fillEndOn (x : Named) (litres : Nat) (s : State) : State × Reply :=
  match x.record.state, x.record.fill with
  | .filling, some f =>
    ((s.setFillUnit FillUnit.idle).changeRecord x.ref (x.record.ladenWith (f.reportedAs litres)),
      okay (byte3 f.counted ++ byte2 (tolerance f.counted) ++ byteFlag (mismatch f.counted litres)))
  | _, _ => (s, refuse .state)

/-- FILL-END (R139, R140). -/
def ownFillEnd (p : Port) (body : List Byte) (s : State) : State × Reply :=
  match p, body with
  | .rack, [n, v1, v2] =>
    match s.nameBound .rack n.toNat with
    | .error e => (s, refuse e)
    | .ok x => fillEndOn x (number [v1, v2]) s
  | _, _ => (s, refuse .format)

/-- FILL-ABORT's own check and change (R141, R142). -/
def fillAbortOn (x : Named) (s : State) : State × Reply :=
  match x.record.state, x.record.fill with
  | .filling, some f =>
    if f.counted = 0 then
      ((s.setFillUnit FillUnit.idle).changeRecord x.ref { x.record with state := .released, fill := none },
        okay (byte1 CState.released.code ++ byte3 f.counted))
    else
      ((s.setFillUnit FillUnit.idle).changeRecord x.ref (x.record.ladenWith f.abandoned),
        okay (byte1 CState.laden.code ++ byte3 f.counted))
  | _, _ => (s, refuse .state)

/-- FILL-ABORT (R141, R142). -/
def ownFillAbort (p : Port) (body : List Byte) (s : State) : State × Reply :=
  match p, body with
  | .rack, [n] =>
    match s.nameBound .rack n.toNat with
    | .error e => (s, refuse e)
    | .ok x => fillAbortOn x s
  | _, _ => (s, refuse .format)

/-- EMPTIED (R144). -/
def ownEmptied (_ : Port) (body : List Byte) (s : State) : State × Reply :=
  match body with
  | [slot, n] =>
    match s.nameAtSlot slot.toNat n.toNat with
    | .error e => (s, refuse e)
    | .ok x =>
      if x.record.state ≠ .laden then (s, refuse .state)
      else
        (s.changeRecord x.ref
          { x.record with state := .dirty, release := none, fill := none, summary := none }, okay [])
  | _ => (s, refuse .format)

/-- FILL_STOPPED_MARK (R137). -/
def execFillStoppedMark (s : State) : Host.Outcome State Fault Refusal := .next (whenPowered s State.stoppedStep)

end Sys2Proof.Machine
end

