-- ==== Sys2Proof/Machine/Instruments.lean ====
section
/-! DEFINITION. Instruments and setpoint outputs (chapter 6): the scan converter, the pulse inputs, the sweep, and
READ-INSTRUMENTS. The outputs at a grant and at a leaving of RUNNING are in Arbiter.lean and WashCycle.lean. -/

namespace Sys2Proof.Machine

/-! ## Glitch filters -/

/-- A filter after a sample with filter figure N, and whether the accepted level changed (R107, R147). -/
def Filter.sample (f : Filter) (n : Nat) (level : Level) : Filter × Bool :=
  if level = f.accepted then (⟨f.accepted, 0⟩, false)
  else if n ≤ f.run + 1 then (⟨level, 0⟩, true)
  else (⟨f.accepted, f.run + 1⟩, false)

/-! ## The scan converter -/

/-- The value of a good code by its channel; a code of 0 or 1023 is faulty and has none (R102). -/
def codeValue (ch : Probe) (code : Code) : Option Nat :=
  if code.val = 0 ∨ code.val = 1023 then none
  else if ch.val = 0 then some ((code.val - 1) * 200 / 1021)
  else if ch.val = 5 then some (code.val - 1)
  else some ((code.val - 1) * 2)

/-- A slot after a conversion (R103). -/
def SampleSlot.converted (x : SampleSlot) (ch : Probe) (code : Code) : SampleSlot :=
  match codeValue ch code with
  | some v => ⟨some code, false, some v, 0⟩
  | none => ⟨some code, true, x.lastGood, x.age⟩

/-- All four wash units take a channel 0 sample: a good one replaces the supply temperature held, a faulty one leaves
it (R88, R104). -/
def State.supplySample (s : State) (sample : Option Nat) : State :=
  match sample with
  | none => s
  | some v => { s with act := { s.act with units := mapTable (fun u => { u with supply := some ⟨v, 0⟩ }) s.act.units } }

/-- A sample delivered to its recipients (R104). -/
def State.deliverSample (s : State) (ch : Probe) (sample : Option Nat) : State :=
  if ch.val = 0 then s.supplySample sample
  else if ch.val = 5 then s.setArbiter (s.act.arbiter.pressureSample s.ret.pressureMinimum sample)
  else s.conductivitySample ⟨(ch.val - 1) % 4, by omega⟩ sample

/-- A conversion of the channel the round has come to: the slot updated, the round moved on, and the sample delivered,
in one step (R101, R103, R104). No other channel converts. -/
def State.convert (s : State) (ch : Probe) (code : Code) : State :=
  if s.act.scanNext = ch then
    ({ s with act := { s.act with scanNext := ch + 1 } }.setSlot ch ((s.act.slots[ch]).converted ch code)).deliverSample
      ch (codeValue ch code)
  else s

/-- An age a millisecond on, held at 65,535 (R101). -/
def ageOn (age : Nat) : Nat := min (age + 1) 65535

/-- A millisecond of the sample ages and of the supply temperatures' ages (R101, R88). -/
def State.ageStep (s : State) : State :=
  { s with act := { s.act with
    slots := mapTable (fun x => { x with age := ageOn x.age }) s.act.slots
    units := mapTable (fun u => { u with supply := u.supply.map (fun x => { x with age := ageOn x.age }) })
      s.act.units } }

/-! ## The pulse inputs -/

/-- A commissioning total a pulse on: from 65,535 back to 0 (R108). -/
def totalOn (n : Nat) : Nat := if n = 65535 then 0 else n + 1

/-- An accepted rising level is handed on: a bay's to its wash unit, the rack's to the rack fill unit (R108). -/
def State.handPulse (s : State) : Position → State
  | .bay b => s.bayPulse b
  | .rack => s.rackPulse

/-- A sample of a meter through its filter; an accepted rising level counts one pulse and is handed on (R107, R108). -/
def State.samplePulse (s : State) (m : Position) (level : Level) : State :=
  let c := s.act.pulses[m.index]
  let (f, changed) := c.filter.sample (s.ret.pulseFilter m) level
  if changed ∧ level = .high then (s.setPulse m ⟨f, totalOn c.total⟩).handPulse m
  else s.setPulse m { c with filter := f }

/-! ## The sweep -/

/-- A sweep after a tick: the position moved by the step between low and high (R113). -/
def Sweep.ticked (w : Sweep) (low high step : Nat) : Sweep :=
  if step = 0 then w
  else
    match w.direction with
    | .up => if high ≤ w.position + step then ⟨high, .down⟩ else ⟨w.position + step, .up⟩
    | .down => if w.position - step ≤ low then ⟨low, .up⟩ else ⟨w.position - step, .down⟩

/-- SWEEP_TICK (R113): the sweep code follows the position; the valve is not touched. -/
def State.sweepStep (s : State) (b : Bay) : State :=
  let o := s.act.outputs[b]
  match o.generator, s.runningAt b with
  | some w, some run =>
    let w' := w.ticked run.phase.sweepLow run.phase.sweepHigh run.phase.sweepStep
    s.setOutputs b { o with sweep := w'.position, generator := some w' }
  | _, _ => s

/-! ## READ-INSTRUMENTS -/

/-- A sample slot as READ-INSTRUMENTS reports it (6.4). -/
def SampleSlot.bytes (x : SampleSlot) : List Byte :=
  byte1 (match x.code with | none => 0 | some _ => if x.faulty then 2 else 1)
    ++ byte2 (match x.code with | none => 0 | some k => k.val)
    ++ (match x.lastGood with | none => byte1 0 ++ byte2 0 | some v => byte1 1 ++ byte2 v)
    ++ byte2 (match x.lastGood with | none => 65535 | some _ => x.age)

/-- A pulse channel as READ-INSTRUMENTS reports it (6.4). -/
def PulseChannel.bytes (c : PulseChannel) (n : Nat) : List Byte :=
  byte1 (levelCode c.filter.accepted) ++ byte1 c.filter.run ++ byte1 n ++ byte2 c.total

/-- A bay's outputs as READ-INSTRUMENTS reports them (6.4). -/
def BayOutputs.bytes (o : BayOutputs) : List Byte :=
  byte2 o.valve ++ byte2 o.sweep ++ byteFlag o.generator.isSome
    ++ byte1 (match o.generator with | some ⟨_, .down⟩ => 1 | _ => 0)

/-- The five meters in the order READ-INSTRUMENTS reports them. -/
def allMeters : List Position := [.bay 0, .bay 1, .bay 2, .bay 3, .rack]

/-- READ-INSTRUMENTS (R117). -/
def ownReadInstruments (_ : Port) (_ : List Byte) (s : State) : State × Reply :=
  (s, okay (s.act.slots.toList.flatMap SampleSlot.bytes
    ++ allMeters.flatMap (fun m => (s.act.pulses[m.index]).bytes (s.ret.pulseFilter m))
    ++ s.act.outputs.toList.flatMap BayOutputs.bytes))

/-! ## The events' meanings -/

/-- SCAN_CONVERSION (R103). -/
def execScanConversion (ch : Probe) (code : Code) (s : State) : Host.Outcome State Fault Refusal :=
  .next (whenPowered s (fun s => s.convert ch code))

/-- PULSE_SAMPLE (R107). -/
def execPulseSample (meter : Position) (level : Level) (s : State) : Host.Outcome State Fault Refusal :=
  .next (whenPowered s (fun s => s.samplePulse meter level))

/-- SWEEP_TICK (R113). -/
def execSweepTick (b : Bay) (s : State) : Host.Outcome State Fault Refusal :=
  .next (whenPowered s (fun s => s.sweepStep b))

/-- AGE_MILLISECOND (R101, R88). -/
def execAgeMillisecond (s : State) : Host.Outcome State Fault Refusal := .next (whenPowered s State.ageStep)

end Sys2Proof.Machine
end

