-- ==== Sys2Proof/Machine/Lines.lean ====
section
/-! DEFINITION. Field lines, holds and notices (chapter 9). As in WashCycle.lean, an owner's last arm cannot be met
after the common checks. -/

namespace Sys2Proof.Machine

/-! ## What a line does -/

/-- A line joins or leaves the arbiter's BLOCK-GRANTS line set (R78). -/
def State.setBlockLine (s : State) (l : Line) (member : Bool) : State :=
  s.setArbiter (s.act.arbiter.setBlockLine l member)

/-- The action of a line become active (R149). -/
def State.lineAction (s : State) (l : Line) : Action → State
  | .note => s
  | .holdBay b => s.joinHold (.bay b) l
  | .holdAll => (((s.joinHold (.bay 0) l).joinHold (.bay 1) l).joinHold (.bay 2) l).joinHold (.bay 3) l
  | .stopRack => s.joinHold .rack l
  | .blockGrants => s.setBlockLine l true

/-- The notices of a line become active: it joins the pending-line set of each port of its notify set (R149). -/
def State.lineNotices (s : State) (l : Line) (ports : PortSet) : State :=
  allPorts.foldl (fun s p => if ports[p.index] then s.addPending p l else s) s

/-- A line becomes active under a route entry: nothing beyond its active state while MASKED (R149). -/
def State.lineBecomesActive (s : State) (l : Line) (e : Route) : State :=
  if e.masked then s else (s.lineAction l e.action).lineNotices l e.notify

/-- A line becomes inactive: it leaves the BLOCK-GRANTS line set, and stays where it is latched (R150). -/
def State.lineBecomesInactive (s : State) (l : Line) : State := s.setBlockLine l false

/-- A sample of a field line through its filter (R147, R149, R150). -/
def State.sampleLine (s : State) (l : Line) (level : Level) : State :=
  let e := s.ret.routes[l]
  let (f, changed) := (s.act.lines[l]).sample e.filterN level
  let s' := s.setLine l f
  if changed then
    if level = e.polarity.activeLevel then s'.lineBecomesActive l e else s'.lineBecomesInactive l
  else s'

/-! ## RESUME -/

/-- The lines of a position's hold set that are still active (R152). -/
def State.stillActive (s : State) (p : Position) : LineSet := bothOf (s.hold p).lines s.activeLines

/-- RESUME of a position (R152). The emptying is handed on by the state itself: a bay's wash unit with a HELD
compartment finds its hold set empty (R62), and the rack fill unit does nothing with it (R137). -/
def resumeAt (p : Position) (s : State) : State × Reply :=
  if anyOf (s.stillActive p) then (s, ⟨.held, lineBytes (s.stillActive p)⟩)
  else (s.setHold p HoldSet.empty, okay (byte1 (s.hold p).count))

/-- RESUME (R152). -/
def ownResume (p : Port) (body : List Byte) (s : State) : State × Reply :=
  match p.position, body with
  | some pos, [] => resumeAt pos s
  | none, [n] =>
    match positionOf n.toNat with
    | none => (s, refuse .range)
    | some pos => resumeAt pos s
  | _, _ => (s, refuse .format)

/-! ## Routes -/

/-- Any compartment on the yard is RUNNING or FILLING (R154). -/
def State.anyMoving (s : State) : Bool := s.anyRecord (fun c => c.state == .running || c.state == .filling)

/-- Ports dropped from a line's notify set lose the line from their pending sets (R155). -/
def State.trimPending (s : State) (l : Line) (old new : PortSet) : State :=
  allPorts.foldl (fun s p => if old[p.index] && !new[p.index] then s.dropPending p l else s) s

/-- Write one route entry. -/
def State.setRoute (s : State) (l : Line) (e : Route) : State :=
  { s with ret := { s.ret with routes := s.ret.routes.set l e } }

/-- WRITE-ROUTE's change (R155, R78). -/
def State.reroute (s : State) (l : Line) (e : Route) : State :=
  let old := s.ret.routes[l]
  let wasActing := s.lineActive l && !old.masked
  let s1 := (s.setRoute l e).trimPending l old.notify e.notify
  let acting := s1.lineActive l && !e.masked
  let s2 := s1.setBlockLine l (acting && e.action == .blockGrants)
  if acting && !wasActing then s2.lineBecomesActive l e else s2

/-- WRITE-ROUTE (R154, R155). -/
def ownWriteRoute (_ : Port) (body : List Byte) (s : State) : State × Reply :=
  match body with
  | [l, mask, polarity, trigger, action, bay, notify, filterN] =>
    match lineOf l.toNat, routeOf mask polarity trigger action bay notify filterN with
    | some line, some e => if s.anyMoving then (s, refuse .busy) else (s.reroute line e, okay [])
    | _, _ => (s, refuse .range)
  | _ => (s, refuse .format)

/-- The bay byte of a route entry: its bay for HOLD-BAY; for any other action the manual states none and the byte is
a free value (log entry 3). -/
def routeBayNumber (free : Nat) : Action → Byte
  | .holdBay b => BitVec.ofNat 8 (b.val + 1)
  | .note | .holdAll | .stopRack | .blockGrants => Config.routeBayByte free

/-- A route entry in the form WRITE-ROUTE sends it (R156). The entry of R148 has no line field, and the manual does not
say whether that form includes the line byte WRITE-ROUTE's body begins with; the model takes the whole body, the line
first, eight bytes (DESIGN CHOICE, log entry 16). -/
def Route.bytes (e : Route) (l : Line) (free : Nat) : List Byte :=
  byte1 l.val ++ byteFlag e.masked ++ byte1 (match e.polarity with | .activeLow => 0 | .activeHigh => 1)
    ++ byte1 (match e.trigger with | .edge => 0 | .level => 1) ++ byte1 e.action.code
    ++ [routeBayNumber free e.action] ++ byte1 (flagsNumber e.notify.toList) ++ byte1 e.filterN

/-- READ-ROUTE (R156). The free value it may use is spent. -/
def ownReadRoute (_ : Port) (body : List Byte) (s : State) : State × Reply :=
  match body with
  | [l] =>
    match lineOf l.toNat with
    | none => (s, refuse .range)
    | some line =>
      let f := s.act.lines[line]
      ({ s with freeCount := s.freeCount + 1 },
        okay ((s.ret.routes[line]).bytes line s.freeCount ++ byte1 (levelCode f.accepted) ++ byte1 f.run
          ++ byteFlag (s.lineActive line)
          ++ lineBytes (s.hold (.bay 0)).lines ++ lineBytes (s.hold (.bay 1)).lines
          ++ lineBytes (s.hold (.bay 2)).lines ++ lineBytes (s.hold (.bay 3)).lines
          ++ lineBytes (s.hold .rack).lines ++ byteFlag (s.hold .rack).overfill))
  | _ => (s, refuse .format)

/-! ## Notices -/

/-- A changed reference as EVENTS reports it; a record freed by DEPART is in no set (R159), so the arm for one is
never met from reset. -/
def State.eventBytes (s : State) (r : RecordRef) : List Byte :=
  match s.record r with
  | some c => byte1 r.val ++ byte1 c.state.code ++ byte1 (noteCode c.note)
  | none => byte1 r.val ++ byte1 0 ++ byte1 0

/-- EVENTS (R159). -/
def ownEvents (p : Port) (_ : List Byte) (s : State) : State × Reply :=
  let n := s.notice p
  (s.setNotice p n.pendingLines (noneOf 64),
    okay (byte1 s.act.mode.code ++ lineBytes n.pendingLines ++ byte1 (countOf n.changed)
      ++ (membersOf n.changed).flatMap s.eventBytes))

/-- The conditions that put an acknowledged line back (R160). -/
def State.readds (s : State) (p : Port) (l : Line) : Bool :=
  let e := s.ret.routes[l]
  e.trigger == .level && !e.masked && e.notify[p.index] && s.lineActive l

/-- ACK-LINE (R160). -/
def ownAckLine (p : Port) (body : List Byte) (s : State) : State × Reply :=
  match body with
  | [l] =>
    match lineOf l.toNat with
    | none => (s, refuse .range)
    | some line =>
      if s.readds p line then (s.addPending p line, okay (byteFlag true))
      else (s.dropPending p line, okay (byteFlag false))
  | _ => (s, refuse .format)

/-- STATUS (R166). The OVERFILL byte is the rack's, and zero for a bay (10.4). -/
def ownStatus (p : Port) (_ : List Byte) (s : State) : State × Reply :=
  let place := match p.position with
    | some pos =>
      byte1 (match s.binding pos with | some i => slotNumber i | none => 0)
        ++ lineBytes (s.hold pos).lines ++ byteFlag (pos == .rack && (s.hold pos).overfill)
    | none => byte1 0 ++ byte2 0 ++ byte1 0
  (s, okay (byte1 s.act.mode.code ++ place ++ byte1 s.act.arbiter.causesNumber
    ++ byteFlag (s.notice p).attention ++ byte1 (s.port p).discards))

/-! ## The event's meaning -/

/-- LINE_SAMPLE (R147). -/
def execLineSample (line : Line) (level : Level) (s : State) : Host.Outcome State Fault Refusal :=
  .next (whenPowered s (fun s => s.sampleLine line level))

end Sys2Proof.Machine
end

