-- ==== Sys2Proof/Machine/YardTable.lean ====
section
/-! DEFINITION. The yard table's own requests (chapter 1): ADMIT, DEPART, DOCK, UNDOCK, READ-TANKER and
READ-COMPARTMENT. As in WashCycle.lean, an owner's last arm cannot be met after the common checks. -/

namespace Sys2Proof.Machine

/-! ## ADMIT -/

/-- The slot whose tanker has a token (R1). -/
def State.slotWithToken (s : State) (token : List Byte) : Option Slot :=
  (List.finRange 12).find? (fun i => match s.ret.tankers[i] with
    | some t => t.token == token
    | none => false)

/-- The lowest-numbered free slot (R10). -/
def State.freeSlot (s : State) : Option Slot :=
  (List.finRange 12).find? (fun i => (s.ret.tankers[i]).isNone)

/-- The record of an admitted compartment (R10). -/
def newCompartment (n capacity : Nat) (history : List ClassNo) : Compartment :=
  ⟨n, capacity, .dirty, history, none, none, none, none, none, none, none, none⟩

/-- Write admitted records, numbering from n + 1, each handed to the notice store as a change of state (R10). -/
def State.admitRecords (s : State) (n : Nat) : List (RecordRef × Nat × List ClassNo) → State
  | [] => s
  | (r, capacity, history) :: rest =>
    (s.changeRecord r (newCompartment (n + 1) capacity history)).admitRecords (n + 1) rest

/-- A taken ADMIT (R10). -/
def State.admitTanker (s : State) (i : Slot) (token : List Byte) (cs : List (Nat × List ClassNo)) : State :=
  let refs := s.ret.freeList.take cs.length
  let s1 := { s with ret := { s.ret with
    tankers := s.ret.tankers.set i (some ⟨token, s.ret.clock, refs, none⟩)
    freeList := s.ret.freeList.drop cs.length } }
  s1.admitRecords 0 (refs.zip cs)

/-- ADMIT (R9, R10). -/
def ownAdmit (_ : Port) (body : List Byte) (s : State) : State × Reply :=
  match body.drop 8 with
  | [] => (s, refuse .format)
  | n :: rest =>
    match sentCompartments n.toNat rest with
    | none => (s, refuse .format)
    | some sent =>
      if n.toNat = 0 ∨ 8 < n.toNat then (s, refuse .range)
      else
        match admittedCompartments sent, tokenOf (body.take 8) with
        | some cs, some token =>
          if cs.any (fun c => c.2.any (fun k => (s.ret.classes[k]).isNone)) then (s, refuse .cargoClass)
          else if (s.slotWithToken token).isSome then (s, refuse .duplicate)
          else
            match s.freeSlot with
            | none => (s, refuse .full)
            | some i =>
              if s.ret.freeList.length < n.toNat then (s, refuse .full)
              else (s.admitTanker i token cs, okay (byte1 (slotNumber i)))
        | _, _ => (s, refuse .range)

/-! ## DEPART -/

/-- Free a departing tanker's records one after another (R11). -/
def State.freeRecords (s : State) : List RecordRef → State
  | [] => s
  | r :: rest => (s.setRecord r none).freeRecords rest

/-- A port's notices without some references (R11). -/
def Notice.without (n : Notice) (refs : List RecordRef) : Notice :=
  Notice.settled n.pendingLines (refs.foldl (fun (v : RefSet) (r : RecordRef) => v.set r false) n.changed)

/-- A taken DEPART (R11). The lapses on their way to a freed record find no state they expect (R129). -/
def State.depart (s : State) (i : Slot) (t : Tanker) : State :=
  let s1 := s.freeRecords t.compartments
  { s1 with
    ret := { s1.ret with
      freeList := s1.ret.freeList ++ t.compartments
      tankers := s1.ret.tankers.set i none }
    act := { s1.act with notices := mapTable (fun n => n.without t.compartments) s1.act.notices } }

/-- A record keeps its tanker on the yard: in a wash state or FILLING (R11). -/
def CState.keepsTanker (x : CState) : Bool := x.isWash || x == .filling

/-- A tanker's records satisfy a test somewhere. -/
def State.anyOfTanker (s : State) (t : Tanker) (f : CState → Bool) : Bool :=
  t.compartments.any (fun r => match s.record r with | some c => f c.state | none => false)

/-- DEPART (R11). -/
def ownDepart (_ : Port) (body : List Byte) (s : State) : State × Reply :=
  match body with
  | [slot] =>
    match s.tankerAt slot.toNat with
    | none => (s, refuse .noTanker)
    | some (i, t) =>
      if t.binding.isSome then (s, refuse .busy)
      else if s.anyOfTanker t CState.keepsTanker then (s, refuse .state)
      else (s.depart i t, okay [])
  | _ => (s, refuse .format)

/-! ## DOCK and UNDOCK -/

/-- The states of a tanker's compartments in number order (DOCK). -/
def State.stateBytes (s : State) (t : Tanker) : List Byte :=
  t.compartments.flatMap (fun r => byte1 (match s.record r with | some c => c.state.code | none => 0))

/-- DOCK's answer in either OK case (R13). -/
def State.dockReply (s : State) (i : Slot) (t : Tanker) : Reply :=
  okay (byte1 (slotNumber i) ++ byte1 t.compartments.length ++ s.stateBytes t)

/-- DOCK's checks and change for a tanker found by its token (R13). -/
def dockAt (p : Position) (i : Slot) (t : Tanker) (s : State) : State × Reply :=
  if s.binding p = some i then (s, s.dockReply i t)
  else if t.binding.isSome ∨ (s.binding p).isSome then (s, refuse .busy)
  else if (s.hold p).nonEmpty then (s, refuse .held)
  else (s.bindTanker p i t, s.dockReply i t)

/-- DOCK (R13). -/
def ownDock (p : Port) (body : List Byte) (s : State) : State × Reply :=
  match p.position with
  | none => (s, refuse .format)
  | some pos =>
    match (tokenOf body).bind s.slotWithToken with
    | none => (s, refuse .noTanker)
    | some i =>
      match s.ret.tankers[i] with
      | none => (s, refuse .noTanker)
      | some t => dockAt pos i t s

/-- The states that refuse an UNDOCK: at a bay the wash states, at the rack FILLING (R14, R15). -/
def undockRefusedBy : Position → CState → Bool
  | .bay _, x => x.isWash
  | .rack, x => x == .filling

/-- UNDOCK (R14, R15). -/
def ownUndock (p : Port) (_ : List Byte) (s : State) : State × Reply :=
  match p.position with
  | none => (s, refuse .format)
  | some pos =>
    match s.boundTanker pos with
    | none => (s, refuse .unbound)
    | some (i, t) =>
      if s.anyOfTanker t (undockRefusedBy pos) then (s, refuse .state)
      else (s.unbindTanker pos i t, okay [])

/-! ## Reading the table -/

/-- A compartment as READ-TANKER reports it (1.7). -/
def State.compartmentLine (s : State) (r : RecordRef) : List Byte :=
  match s.record r with
  | some c => byte1 r.val ++ byte1 c.state.code ++ byte1 (noteCode c.note)
  | none => byte1 r.val ++ byte1 0 ++ byte1 0

/-- A tanker as READ-TANKER reports it (1.7). -/
def State.tankerBytes (s : State) (i : Slot) (t : Tanker) : List Byte :=
  byte1 (slotNumber i) ++ tokenBytes t.token ++ byte4 t.arrival ++ byte1 t.compartments.length
    ++ byte1 (bindingCode t.binding) ++ t.compartments.flatMap s.compartmentLine

/-- READ-TANKER (R17). -/
def ownReadTanker (p : Port) (body : List Byte) (s : State) : State × Reply :=
  match p.position, body with
  | none, [slot] =>
    match s.tankerAt slot.toNat with
    | none => (s, refuse .noTanker)
    | some (i, t) => (s, okay (s.tankerBytes i t))
  | some pos, [] =>
    match s.boundTanker pos with
    | none => (s, refuse .unbound)
    | some (i, t) => (s, okay (s.tankerBytes i t))
  | _, _ => (s, refuse .format)

/-- A list of values at its full length, entries beyond the count as zeroes (10.6). -/
def padded (width : Nat) (bytes : List Byte) : List Byte := bytes ++ List.replicate (width - bytes.length) 0#8

/-- The intent part: flag, class, demand, program (10.6, offsets 11 to 14). -/
def Compartment.intentBytes (c : Compartment) : List Byte :=
  match c.intent with
  | none => [0#8, 0#8, 0#8, 0#8]
  | some k => byte1 1 ++ byte1 (classNumber k) ++ byte1 (match c.demand with | some d => d.code | none => 0)
      ++ byte1 (programNumber c.program)

/-- The progress part (10.6, offsets 15 to 56). -/
def Compartment.progressBytes (c : Compartment) : List Byte :=
  match c.progress with
  | none => List.replicate 42 0#8
  | some p => byte1 1 ++ byte1 p.phaseIndex ++ byte3 p.dose ++ byte1 p.remainder ++ byte2 p.runningTime
      ++ byte1 p.endpointCount ++ byte1 p.sharesHeld ++ byte1 p.marks.number
      ++ byte1 (match p.heldFrom with | some x => x.code | none => 0) ++ byte4 p.queuedSince
      ++ byte4 (p.heldSince.getD 0) ++ byte1 p.phaseDoses.length ++ padded 21 (p.phaseDoses.flatMap byte3)

/-- The wash summary part (10.6, offsets 57 to 86). -/
def Compartment.summaryBytes (c : Compartment) : List Byte :=
  match c.summary with
  | none => List.replicate 30 0#8
  | some w => byte1 1 ++ byte1 w.kind.code ++ byte1 w.phaseDoses.length ++ padded 24 (w.phaseDoses.flatMap byte3)
      ++ (match w.finalConductivity with | none => byte1 0 ++ byte2 0 | some v => byte1 1 ++ byte2 v)

/-- The release part (10.6, offsets 87 to 101). -/
def Compartment.releaseBytes (c : Compartment) : List Byte :=
  match c.release with
  | none => List.replicate 15 0#8
  | some x => byte1 1 ++ byte3 x.certificate ++ byte1 (classNumber x.releasedFor) ++ byte4 x.stamp
      ++ byte4 x.deadline ++ byte2 x.inspector

/-- The fill part (10.6, offsets 102 to 112). -/
def Compartment.fillBytes (c : Compartment) : List Byte :=
  match c.fill with
  | none => List.replicate 11 0#8
  | some f => byte1 1 ++ byte1 (classNumber f.cargo) ++ byte2 f.preset ++ byte3 f.counted
      ++ (match f.reported with | none => byte1 0 ++ byte2 0 | some v => byte1 1 ++ byte2 v)
      ++ byte1 f.marks.number

/-- A compartment record in the layout of 10.6, 113 bytes. -/
def Named.bytes (x : Named) : List Byte :=
  byte1 x.ref.val ++ byte1 (slotNumber x.slot) ++ byte1 x.record.number ++ byte2 x.record.capacity
    ++ byte1 x.record.state.code ++ byte1 x.record.history.length
    ++ padded 3 (x.record.history.flatMap (fun k => byte1 (classNumber k))) ++ byte1 (noteCode x.record.note)
    ++ x.record.intentBytes ++ x.record.progressBytes ++ x.record.summaryBytes ++ x.record.releaseBytes
    ++ x.record.fillBytes

/-- READ-COMPARTMENT (R18). -/
def ownReadCompartment (p : Port) (body : List Byte) (s : State) : State × Reply :=
  match p.position, body with
  | none, [slot, n] =>
    match s.nameAtSlot slot.toNat n.toNat with
    | .error e => (s, refuse e)
    | .ok x => (s, okay x.bytes)
  | some pos, [n] =>
    match s.nameBound pos n.toNat with
    | .error e => (s, refuse e)
    | .ok x => (s, okay x.bytes)
  | _, _ => (s, refuse .format)

end Sys2Proof.Machine
end

