-- ==== Sys2Proof/Machine/Power.lean ====
section
/-! DEFINITION. Retained memory, power loss and recovery (chapter 11): the settings' requests, OPEN-YARD, YARD-RESET,
the starts, and the losses of the supplies. As in WashCycle.lean, an owner's last arm cannot be met after the common
checks. -/

namespace Sys2Proof.Machine

/-! ## Settings -/

/-- A setting of a number, 1 to 25 (R175). -/
def settingOf (n : Nat) : Option (Fin 25) := if h : 1 ≤ n ∧ n ≤ 25 then some ⟨n - 1, by omega⟩ else none

/-- Store a setting's value (R175). -/
def State.storeSetting (s : State) (i : Fin 25) (v : Nat) : State :=
  { s with ret := { s.ret with settings := s.ret.settings.set i v } }

/-- The bay whose park value a setting is (settings 22 to 25). -/
def parkBayOf (i : Fin 25) : Option Bay := if h : 21 ≤ i.val then some ⟨i.val - 21, by omega⟩ else none

/-- The effect a stored setting has on its owner in the write's step: the arbiter takes the loop capacity (R75), and a
stopped sweep its park value (R114). -/
def State.settingEffect (s : State) (i : Fin 25) (v : Nat) : State :=
  if i.val = 0 then s.setArbiter (s.act.arbiter.setCapacity v)
  else
    match parkBayOf i with
    | none => s
    | some b =>
      let o := s.act.outputs[b]
      if o.generator.isNone then s.setOutputs b { o with sweep := v } else s

/-- WRITE-SETTING (R175). -/
def ownWriteSetting (_ : Port) (body : List Byte) (s : State) : State × Reply :=
  match body with
  | [n, v1, v2] =>
    match settingOf n.toNat with
    | none => (s, refuse .range)
    | some i =>
      let v := clampSetting i (number [v1, v2])
      ((s.storeSetting i v).settingEffect i v, okay (byte2 v))
  | _ => (s, refuse .format)

/-- READ-SETTING (R176). -/
def ownReadSetting (_ : Port) (body : List Byte) (s : State) : State × Reply :=
  match body with
  | [n] =>
    if n.toNat = 0 then
      (s, okay (byte4 s.ret.clock ++ byte3 s.ret.certificate ++ byte1 s.act.mode.code))
    else
      match settingOf n.toNat with
      | none => (s, refuse .range)
      | some i => (s, okay (byte2 s.ret.settings[i]))
  | _ => (s, refuse .format)

/-! ## OPEN-YARD and YARD-RESET -/

/-- The yard opened: the mode, the RECOVERY cause and the release timer, before its first check (R173, R79). -/
def State.openMode (s : State) : State :=
  { s with act := { s.act with
    mode := .opened
    arbiter := s.act.arbiter.endRecovery
    releaseTimer := true } }

/-- OPEN-YARD (R173). -/
def ownOpenYard (_ : Port) (_ : List Byte) (s : State) : State × Reply :=
  match s.act.mode with
  | .opened => (s, refuse .state)
  | .recovery => (s.openMode.lapseAll, okay (byte1 (countOf s.overdueSet)))

/-- YARD-RESET (R171): answered OK; the step of R170 follows. -/
def ownYardReset (_ : Port) (_ : List Byte) (s : State) : State × Reply :=
  ({ s with act := { s.act with yardReset := .answering } }, okay [])

/-! ## The starts -/

/-- A record's mapping at power return and YARD-RESET (R20). -/
def Compartment.mapped (c : Compartment) : Compartment :=
  if c.state.isWash then { c with state := .dirty, note := some .powerLost, progress := none }
  else
    match c.state, c.fill with
    | .filling, some f =>
      c.ladenWith { f with reported := none, marks := { f.marks with interrupted := true } }
    | _, _ => c

/-- A record's state is changed by the mapping (R20). -/
def Compartment.mapChanges (c : Compartment) : Bool := c.mapped.state != c.state

/-- The retained domain after the mapping, every binding cleared (R20). -/
def Retained.mapped (r : Retained) : Retained :=
  { r with
    pool := mapTable (fun o => o.map Compartment.mapped) r.pool
    tankers := mapTable (fun o => o.map (fun t => { t with binding := none })) r.tankers
    bindings := Vector.replicate 5 none }

/-- The references the mapping marks for the office port (R170). -/
def Retained.mappedRefs (r : Retained) : RefSet :=
  mapTable (fun o => match o with | some c => c.mapChanges | none => false) r.pool

/-- The step of R170, at power return and when a YARD-RESET takes effect. -/
def State.recover (s : State) : State :=
  { s with
    ret := s.ret.mapped
    act := Active.start s.ret.mapped s.ret.mappedRefs
    mainPower := true }

/-- The cold start (R169). -/
def State.coldStart (s : State) : State :=
  { s with
    ret := Retained.coldStart
    act := Active.start Retained.coldStart (noneOf 64)
    mainPower := true }

/-! ## The losses -/

/-- The active domain without main power: lost, but for what the manual gives: the outputs drive 0 (R116), every
attention line is released (R167), and no port is in a frame, holds one, or sends (R167). -/
def Active.unpowered (free : Nat) : Active :=
  { Config.lostActive free with
    outputs := Vector.replicate 4 ⟨0, 0, none⟩
    notices := Vector.replicate 6 Notice.start
    ports := Vector.replicate 6 PortState.start
    yardReset := .idle }

/-- Main power goes (R168). -/
def State.losePower (s : State) : State :=
  if s.mainPower then
    { s with act := Active.unpowered s.freeCount, mainPower := false, freeCount := s.freeCount + 1 }
  else s

/-- The backup supply fails or is disconnected while main power is off (R169). -/
def State.loseBackup (s : State) : State :=
  if s.mainPower then s
  else
    { s with
      ret := { Config.lostRetained s.freeCount with markerValid := false }
      freeCount := s.freeCount + 1 }

/-! ## The events' meanings -/

/-- YARD_RESET_EFFECT (R170): after a taken YARD-RESET; without one there is no reset to take effect. -/
def execYardResetEffect (s : State) : Host.Outcome State Fault Refusal :=
  .next (whenPowered s (fun s => if s.act.yardReset = .idle then s else s.recover))

/-- COLD_START (R169): power-up, so main power was off, with an invalid marker. -/
def execColdStart (s : State) : Host.Outcome State Fault Refusal :=
  .next (if s.mainPower = false ∧ s.ret.markerValid = false then s.coldStart else s)

/-- POWER_RETURN (R170): power-up, so main power was off, with a valid marker. -/
def execPowerReturn (s : State) : Host.Outcome State Fault Refusal :=
  .next (if s.mainPower = false ∧ s.ret.markerValid = true then s.recover else s)

/-- MAIN_POWER_LOSS (R168). -/
def execMainPowerLoss (s : State) : Host.Outcome State Fault Refusal := .next s.losePower

/-- BACKUP_SUPPLY_LOSS (R169). -/
def execBackupSupplyLoss (s : State) : Host.Outcome State Fault Refusal := .next s.loseBackup

end Sys2Proof.Machine
end

