-- ==== Sys2Proof/Machine/Ports.lean ====
section
/-! DEFINITION. Station ports and requests (chapter 10): the catalogue, the common checks, taking a request, and
receiving frames. -/

namespace Sys2Proof.Machine

/-! ## The catalogue -/

/-- The kinds of request (10.6). -/
inductive Kind where
  | status
  | events
  | ackLine
  | resume
  | readTanker
  | readCompartment
  | admitTanker
  | depart
  | setIntent
  | emptied
  | voidRelease
  | cancelWash
  | readLoop
  | readInstruments
  | dock
  | undock
  | startWash
  | phaseGo
  | abortWash
  | inspectPass
  | inspectFail
  | fillStart
  | fillEnd
  | fillAbort
  | writeClass
  | writeProgram
  | writeFollow
  | writeRoute
  | writeSetting
  | readClass
  | readProgram
  | readFollow
  | readRoute
  | readSetting
  | setClock
  | openYard
  | yardReset
deriving DecidableEq, Repr

/-- The kind byte of a request (10.6). -/
def Kind.byte : Kind → Byte
  | .status => 0x01#8
  | .events => 0x02#8
  | .ackLine => 0x03#8
  | .resume => 0x04#8
  | .readTanker => 0x05#8
  | .readCompartment => 0x06#8
  | .admitTanker => 0x10#8
  | .depart => 0x11#8
  | .setIntent => 0x12#8
  | .emptied => 0x13#8
  | .voidRelease => 0x14#8
  | .cancelWash => 0x15#8
  | .readLoop => 0x16#8
  | .readInstruments => 0x17#8
  | .dock => 0x20#8
  | .undock => 0x21#8
  | .startWash => 0x30#8
  | .phaseGo => 0x31#8
  | .abortWash => 0x32#8
  | .inspectPass => 0x33#8
  | .inspectFail => 0x34#8
  | .fillStart => 0x40#8
  | .fillEnd => 0x41#8
  | .fillAbort => 0x42#8
  | .writeClass => 0x50#8
  | .writeProgram => 0x51#8
  | .writeFollow => 0x52#8
  | .writeRoute => 0x53#8
  | .writeSetting => 0x54#8
  | .readClass => 0x58#8
  | .readProgram => 0x59#8
  | .readFollow => 0x5A#8
  | .readRoute => 0x5B#8
  | .readSetting => 0x5C#8
  | .setClock => 0x60#8
  | .openYard => 0x61#8
  | .yardReset => 0x62#8

/-- Every kind of the catalogue. -/
def allKinds : List Kind :=
  [.status, .events, .ackLine, .resume, .readTanker, .readCompartment, .admitTanker, .depart, .setIntent, .emptied,
    .voidRelease, .cancelWash, .readLoop, .readInstruments, .dock, .undock, .startWash, .phaseGo, .abortWash,
    .inspectPass, .inspectFail, .fillStart, .fillEnd, .fillAbort, .writeClass, .writeProgram, .writeFollow,
    .writeRoute, .writeSetting, .readClass, .readProgram, .readFollow, .readRoute, .readSetting, .setClock,
    .openYard, .yardReset]

/-- The kind of a kind byte; none for one not in the catalogue (R165). -/
def kindOf (b : Byte) : Option Kind := allKinds.find? (fun k => k.byte == b)

/-- A request's row of the catalogue for a port: whether the body length is accepted, whether the kind is taken in
RECOVERY, and whether it needs the position's binding (10.3, 10.6). -/
structure Entry where
  exact : Bool
  length : Nat
  inRecovery : Bool
  needsBinding : Bool
deriving DecidableEq, Repr

/-- An entry of exact body length that needs no binding. -/
def entryOf (length : Nat) (inRecovery : Bool) : Entry := ⟨true, length, inRecovery, false⟩

/-- An entry of exact body length that names a compartment from a bay or the rack. -/
def boundEntry (length : Nat) (inRecovery : Bool) : Entry := ⟨true, length, inRecovery, true⟩

/-- The office's kinds (10.6); every one but SET-INTENT is taken in RECOVERY. -/
def officeEntry : Kind → Option Entry
  | .status | .events | .readLoop | .readInstruments | .openYard | .yardReset => some (entryOf 0 true)
  | .ackLine | .resume | .readTanker | .depart => some (entryOf 1 true)
  | .readClass | .readProgram | .readFollow | .readRoute | .readSetting => some (entryOf 1 true)
  | .readCompartment | .emptied | .voidRelease | .cancelWash => some (entryOf 2 true)
  | .setIntent => some (entryOf 3 false)
  | .writeSetting => some (entryOf 3 true)
  | .writeClass | .setClock => some (entryOf 4 true)
  | .writeRoute => some (entryOf 8 true)
  | .writeFollow => some (entryOf 13 true)
  | .admitTanker => some ⟨false, 9, true, false⟩
  | .writeProgram => some ⟨false, 2, true, false⟩
  | .dock | .undock | .startWash | .phaseGo | .abortWash | .inspectPass | .inspectFail => none
  | .fillStart | .fillEnd | .fillAbort => none

/-- The kinds of all roles, from a bay or the rack, with DOCK and UNDOCK (10.6). -/
def positionEntry : Kind → Option Entry
  | .status | .events => some (entryOf 0 true)
  | .ackLine => some (entryOf 1 true)
  | .resume => some (entryOf 0 false)
  | .readTanker => some (boundEntry 0 true)
  | .readCompartment => some (boundEntry 1 true)
  | .dock => some (entryOf 8 false)
  | .undock => some (entryOf 0 false)
  | _ => none

/-- The bays' own kinds (10.6). -/
def bayEntry : Kind → Option Entry
  | .startWash | .phaseGo | .abortWash => some (boundEntry 1 false)
  | .inspectPass => some (boundEntry 3 false)
  | .inspectFail => some (boundEntry 2 false)
  | k => positionEntry k

/-- The rack's own kinds (10.6). -/
def rackEntry : Kind → Option Entry
  | .fillStart => some (boundEntry 4 false)
  | .fillEnd => some (boundEntry 3 false)
  | .fillAbort => some (boundEntry 1 false)
  | k => positionEntry k

/-- The catalogue's entry of a kind for the role of a port; none if the role may not send it (R165). -/
def catalogue (p : Port) (k : Kind) : Option Entry :=
  match p with
  | .bay _ => bayEntry k
  | .rack => rackEntry k
  | .office => officeEntry k

/-! ## Taking a request -/

/-- A body length passes the length check (R165). -/
def Entry.lengthOk (e : Entry) (n : Nat) : Bool := if e.exact then n == e.length else decide (e.length ≤ n)

/-- A port's position has no binding (R165). -/
def State.unboundAt (s : State) (p : Port) : Bool :=
  match p.position with
  | some pos => (s.binding pos).isNone
  | none => false

/-- The common checks after the kind: role, length, mode, binding, in that order (R165). -/
def commonCheck (p : Port) (k : Kind) (length : Nat) (s : State) : Option AnswerCode :=
  match catalogue p k with
  | none => some .role
  | some e =>
    if e.lengthOk length = false then some .format
    else if s.act.mode = .recovery ∧ e.inRecovery = false then some .recovery
    else if e.needsBinding ∧ s.unboundAt p then some .unbound
    else none

/-- The owner of a kind: its own checks and its change, made together. -/
def owner : Kind → Port → List Byte → State → State × Reply
  | .status => ownStatus
  | .events => ownEvents
  | .ackLine => ownAckLine
  | .resume => ownResume
  | .readTanker => ownReadTanker
  | .readCompartment => ownReadCompartment
  | .admitTanker => ownAdmit
  | .depart => ownDepart
  | .setIntent => ownSetIntent
  | .emptied => ownEmptied
  | .voidRelease => ownVoidRelease
  | .cancelWash => ownCancelWash
  | .readLoop => ownReadLoop
  | .readInstruments => ownReadInstruments
  | .dock => ownDock
  | .undock => ownUndock
  | .startWash => ownStartWash
  | .phaseGo => ownPhaseGo
  | .abortWash => ownAbortWash
  | .inspectPass => ownInspectPass
  | .inspectFail => ownInspectFail
  | .fillStart => ownFillStart
  | .fillEnd => ownFillEnd
  | .fillAbort => ownFillAbort
  | .writeClass => ownWriteClass
  | .writeProgram => ownWriteProgram
  | .writeFollow => ownWriteFollow
  | .writeRoute => ownWriteRoute
  | .writeSetting => ownWriteSetting
  | .readClass => ownReadClass
  | .readProgram => ownReadProgram
  | .readFollow => ownReadFollow
  | .readRoute => ownReadRoute
  | .readSetting => ownReadSetting
  | .setClock => ownSetClock
  | .openYard => ownOpenYard
  | .yardReset => ownYardReset

/-- A request served: the common checks, then its owner (R165). -/
def serve (p : Port) (f : Frame) (s : State) : State × Reply :=
  match kindOf f.kind with
  | none => (s, refuse .format)
  | some k =>
    match commonCheck p k f.body.length s with
    | some c => (s, refuse c)
    | none => owner k p f.body s

/-- The answer to a taken request, with its kind and tag as received, and its sending begun (R163, R164). -/
def State.answer (s : State) (p : Port) (f : Frame) (r : Reply) : State :=
  s.setPort p { s.port p with sending := some ⟨f.kind, f.tag, r.code, r.body⟩ }

/-- A request taken in one step (R163). -/
def State.take (s : State) (p : Port) (f : Frame) : State :=
  (serve p f s).1.answer p f (serve p f s).2

/-- The bytes of an answer frame from the length to the end of the body (10.6). -/
def Answer.inner (a : Answer) : List Byte :=
  byte1 a.body.length ++ [a.kind, a.tag] ++ byte1 a.code.value ++ a.body

/-- The bytes of an answer frame on the wire (10.6). -/
def Answer.wire (a : Answer) : List Byte := [answerSync] ++ a.inner ++ byte2 (crc16 a.inner).toNat

/-! ## The taking order of a port -/

/-- A frame is discarded: the port's discard count rises, held at no more than 255 (R162, R166). -/
def State.discard (s : State) (p : Port) : State :=
  s.setPort p { s.port p with discards := min ((s.port p).discards + 1) 255 }

/-- A YARD-RESET whose answer has left is made before any port takes a request (R170). -/
def State.resetDue (s : State) : Bool := s.act.yardReset == .due

/-- A frame completes at a port (R163): taken at once, held, or discarded. A body above 240 bytes is no frame: its
length byte discards it (R162). -/
def State.frameCompletes (s : State) (p : Port) (f : Frame) : State :=
  if 240 < f.body.length then s.discard p
  else if (s.port p).holding.isSome then s.discard p
  else if (s.port p).sending.isSome ∨ s.resetDue then s.setPort p { s.port p with holding := some f }
  else s.take p f

/-- The last byte of a port's answer has left (R163): the frame in the holding slot, if any, is taken. After the answer
to a YARD-RESET the reset step comes first, and the frames held are lost (R167, R171). -/
def State.answerSent (s : State) (p : Port) : State :=
  match (s.port p).sending with
  | none => s
  | some _ =>
    if p = .office ∧ s.act.yardReset = .answering then
      let s1 := s.setPort p { s.port p with sending := none }
      { s1 with act := { s1.act with yardReset := .due } }
    else if s.resetDue then s.setPort p { s.port p with sending := none }
    else
      match (s.port p).holding with
      | none => s.setPort p { s.port p with sending := none }
      | some f => (s.setPort p { s.port p with sending := none, holding := none }).take p f

/-! ## Receiving bytes -/

/-- What a receiver does with the bytes taken after the sync byte (R162). -/
inductive Received where
  /-- The frame is discarded. -/
  | discarded
  /-- More bytes are wanted. -/
  | wanted
  /-- The frame is complete. -/
  | complete (f : Frame)
deriving DecidableEq, Repr

/-- The frame in the bytes after the sync: discarded at a length above 240 or at a wrong check, complete at its last
check byte (R162). -/
def receivedFrame (got : List Byte) : Received :=
  match got with
  | [] => .wanted
  | len :: rest =>
    if 240 < len.toNat then .discarded
    else
      match rest with
      | kind :: tag :: more =>
        if more.length < len.toNat + 2 then .wanted
        else if byte2 (crc16 (len :: kind :: tag :: more.take len.toNat)).toNat = more.drop len.toNat then
          .complete ⟨kind, tag, more.take len.toNat⟩
        else .discarded
      | _ => .wanted

/-- A port's receiver (R162). -/
def State.setReceiver (s : State) (p : Port) (x : Receiver) : State := s.setPort p { s.port p with receiver := x }

/-- A port receives a byte (R162). While hunting, a byte with a framing error is not the sync byte (log entry 10). -/
def State.receiveByte (s : State) (p : Port) (b : Byte) (framingError : Bool) : State :=
  match (s.port p).receiver with
  | .hunting =>
    if b = requestSync ∧ framingError = false then s.setReceiver p (.inFrame []) else s
  | .inFrame got =>
    if framingError then (s.setReceiver p .hunting).discard p
    else
      match receivedFrame (got ++ [b]) with
      | .discarded => (s.setReceiver p .hunting).discard p
      | .wanted => s.setReceiver p (.inFrame (got ++ [b]))
      | .complete f => (s.setReceiver p .hunting).frameCompletes p f

/-- The gap of more than 20 ms inside a frame (R162). -/
def State.gap (s : State) (p : Port) : State :=
  match (s.port p).receiver with
  | .hunting => s
  | .inFrame _ => (s.setReceiver p .hunting).discard p

/-! ## The events' meanings -/

/-- REQUEST_BYTE_RECEIVED (R162). -/
def execRequestByteReceived (p : Port) (b : Byte) (framingError : Bool) (s : State) :
    Host.Outcome State Fault Refusal :=
  .next (whenPowered s (fun s => s.receiveByte p b framingError))

/-- INTER_BYTE_TIMEOUT (R162). -/
def execInterByteTimeout (p : Port) (s : State) : Host.Outcome State Fault Refusal :=
  .next (whenPowered s (fun s => s.gap p))

/-- ANSWER_SEND_COMPLETE (R163). -/
def execAnswerSendComplete (p : Port) (s : State) : Host.Outcome State Fault Refusal :=
  .next (whenPowered s (fun s => s.answerSent p))

end Sys2Proof.Machine
end

