-- ==== Sys2Proof/Machine/Requests.lean ====
section
/-! DEFINITION. The meanings of the 37 requests: each is a complete frame of its kind at a port, put through the port's
taking order (R163) and, when it is taken, through the common checks and its owner in one step (R165). -/

namespace Sys2Proof.Machine

/-- A complete request frame of a kind reaches a port (R163); without main power no port takes one (R167). -/
def State.request (s : State) (k : Kind) (p : Port) (tag : Byte) (body : List Byte) : State :=
  whenPowered s (fun s => s.frameCompletes p ⟨k.byte, tag, body⟩)

/-- STATUS (R166). -/
def execStatus (p : Port) (tag : Byte) (body : List Byte) (s : State) : Host.Outcome State Fault Refusal :=
  .next (s.request .status p tag body)

/-- EVENTS (R159). -/
def execEvents (p : Port) (tag : Byte) (body : List Byte) (s : State) : Host.Outcome State Fault Refusal :=
  .next (s.request .events p tag body)

/-- ACK-LINE (R160). -/
def execAckLine (p : Port) (tag : Byte) (body : List Byte) (s : State) : Host.Outcome State Fault Refusal :=
  .next (s.request .ackLine p tag body)

/-- RESUME (R152). -/
def execResume (p : Port) (tag : Byte) (body : List Byte) (s : State) : Host.Outcome State Fault Refusal :=
  .next (s.request .resume p tag body)

/-- READ-TANKER (R17). -/
def execReadTanker (p : Port) (tag : Byte) (body : List Byte) (s : State) : Host.Outcome State Fault Refusal :=
  .next (s.request .readTanker p tag body)

/-- READ-COMPARTMENT (R18). -/
def execReadCompartment (p : Port) (tag : Byte) (body : List Byte) (s : State) : Host.Outcome State Fault Refusal :=
  .next (s.request .readCompartment p tag body)

/-- ADMIT (R10). -/
def execAdmit (p : Port) (tag : Byte) (body : List Byte) (s : State) : Host.Outcome State Fault Refusal :=
  .next (s.request .admitTanker p tag body)

/-- DEPART (R11). -/
def execDepart (p : Port) (tag : Byte) (body : List Byte) (s : State) : Host.Outcome State Fault Refusal :=
  .next (s.request .depart p tag body)

/-- SET-INTENT (R37). -/
def execSetIntent (p : Port) (tag : Byte) (body : List Byte) (s : State) : Host.Outcome State Fault Refusal :=
  .next (s.request .setIntent p tag body)

/-- EMPTIED (R144). -/
def execEmptied (p : Port) (tag : Byte) (body : List Byte) (s : State) : Host.Outcome State Fault Refusal :=
  .next (s.request .emptied p tag body)

/-- VOID-RELEASE (R127). -/
def execVoidRelease (p : Port) (tag : Byte) (body : List Byte) (s : State) : Host.Outcome State Fault Refusal :=
  .next (s.request .voidRelease p tag body)

/-- CANCEL-WASH (R57). -/
def execCancelWash (p : Port) (tag : Byte) (body : List Byte) (s : State) : Host.Outcome State Fault Refusal :=
  .next (s.request .cancelWash p tag body)

/-- READ-LOOP (R81). -/
def execReadLoop (p : Port) (tag : Byte) (body : List Byte) (s : State) : Host.Outcome State Fault Refusal :=
  .next (s.request .readLoop p tag body)

/-- READ-INSTRUMENTS (R117). -/
def execReadInstruments (p : Port) (tag : Byte) (body : List Byte) (s : State) : Host.Outcome State Fault Refusal :=
  .next (s.request .readInstruments p tag body)

/-- DOCK (R13). -/
def execDock (p : Port) (tag : Byte) (body : List Byte) (s : State) : Host.Outcome State Fault Refusal :=
  .next (s.request .dock p tag body)

/-- UNDOCK (R14). -/
def execUndock (p : Port) (tag : Byte) (body : List Byte) (s : State) : Host.Outcome State Fault Refusal :=
  .next (s.request .undock p tag body)

/-- START-WASH (R46). -/
def execStartWash (p : Port) (tag : Byte) (body : List Byte) (s : State) : Host.Outcome State Fault Refusal :=
  .next (s.request .startWash p tag body)

/-- PHASE-GO (R52). -/
def execPhaseGo (p : Port) (tag : Byte) (body : List Byte) (s : State) : Host.Outcome State Fault Refusal :=
  .next (s.request .phaseGo p tag body)

/-- ABORT-WASH (R56). -/
def execAbortWash (p : Port) (tag : Byte) (body : List Byte) (s : State) : Host.Outcome State Fault Refusal :=
  .next (s.request .abortWash p tag body)

/-- INSPECT-PASS (R121). -/
def execInspectPass (p : Port) (tag : Byte) (body : List Byte) (s : State) : Host.Outcome State Fault Refusal :=
  .next (s.request .inspectPass p tag body)

/-- INSPECT-FAIL (R122). -/
def execInspectFail (p : Port) (tag : Byte) (body : List Byte) (s : State) : Host.Outcome State Fault Refusal :=
  .next (s.request .inspectFail p tag body)

/-- FILL-START (R133). -/
def execFillStart (p : Port) (tag : Byte) (body : List Byte) (s : State) : Host.Outcome State Fault Refusal :=
  .next (s.request .fillStart p tag body)

/-- FILL-END (R139). -/
def execFillEnd (p : Port) (tag : Byte) (body : List Byte) (s : State) : Host.Outcome State Fault Refusal :=
  .next (s.request .fillEnd p tag body)

/-- FILL-ABORT (R141). -/
def execFillAbort (p : Port) (tag : Byte) (body : List Byte) (s : State) : Host.Outcome State Fault Refusal :=
  .next (s.request .fillAbort p tag body)

/-- WRITE-CLASS (R22). -/
def execWriteClass (p : Port) (tag : Byte) (body : List Byte) (s : State) : Host.Outcome State Fault Refusal :=
  .next (s.request .writeClass p tag body)

/-- WRITE-PROGRAM (R29). -/
def execWriteProgram (p : Port) (tag : Byte) (body : List Byte) (s : State) : Host.Outcome State Fault Refusal :=
  .next (s.request .writeProgram p tag body)

/-- WRITE-FOLLOW (R26). -/
def execWriteFollow (p : Port) (tag : Byte) (body : List Byte) (s : State) : Host.Outcome State Fault Refusal :=
  .next (s.request .writeFollow p tag body)

/-- WRITE-ROUTE (R155). -/
def execWriteRoute (p : Port) (tag : Byte) (body : List Byte) (s : State) : Host.Outcome State Fault Refusal :=
  .next (s.request .writeRoute p tag body)

/-- WRITE-SETTING (R175). -/
def execWriteSetting (p : Port) (tag : Byte) (body : List Byte) (s : State) : Host.Outcome State Fault Refusal :=
  .next (s.request .writeSetting p tag body)

/-- READ-CLASS (R24). -/
def execReadClass (p : Port) (tag : Byte) (body : List Byte) (s : State) : Host.Outcome State Fault Refusal :=
  .next (s.request .readClass p tag body)

/-- READ-PROGRAM (R31). -/
def execReadProgram (p : Port) (tag : Byte) (body : List Byte) (s : State) : Host.Outcome State Fault Refusal :=
  .next (s.request .readProgram p tag body)

/-- READ-FOLLOW (R27). -/
def execReadFollow (p : Port) (tag : Byte) (body : List Byte) (s : State) : Host.Outcome State Fault Refusal :=
  .next (s.request .readFollow p tag body)

/-- READ-ROUTE (R156). -/
def execReadRoute (p : Port) (tag : Byte) (body : List Byte) (s : State) : Host.Outcome State Fault Refusal :=
  .next (s.request .readRoute p tag body)

/-- READ-SETTING (R176). -/
def execReadSetting (p : Port) (tag : Byte) (body : List Byte) (s : State) : Host.Outcome State Fault Refusal :=
  .next (s.request .readSetting p tag body)

/-- SET-CLOCK (R128). -/
def execSetClock (p : Port) (tag : Byte) (body : List Byte) (s : State) : Host.Outcome State Fault Refusal :=
  .next (s.request .setClock p tag body)

/-- OPEN-YARD (R173). -/
def execOpenYard (p : Port) (tag : Byte) (body : List Byte) (s : State) : Host.Outcome State Fault Refusal :=
  .next (s.request .openYard p tag body)

/-- YARD-RESET (R171). -/
def execYardReset (p : Port) (tag : Byte) (body : List Byte) (s : State) : Host.Outcome State Fault Refusal :=
  .next (s.request .yardReset p tag body)

end Sys2Proof.Machine
end

