-- ==== Sys2Proof/Machine/Dispatch.lean ====
section
/-! DEFINITION. The dispatch: one arm a command. -/

namespace Sys2Proof.Machine

open Sys2Proof

def exec (i : Instr) (s : State) : Host.Outcome State Fault Refusal :=
  match i with
  | .status p tag body => Sys2Proof.Machine.execStatus p tag body s
  | .events p tag body => Sys2Proof.Machine.execEvents p tag body s
  | .ackLine p tag body => Sys2Proof.Machine.execAckLine p tag body s
  | .resume p tag body => Sys2Proof.Machine.execResume p tag body s
  | .readTanker p tag body => Sys2Proof.Machine.execReadTanker p tag body s
  | .readCompartment p tag body => Sys2Proof.Machine.execReadCompartment p tag body s
  | .admitTanker p tag body => Sys2Proof.Machine.execAdmit p tag body s
  | .depart p tag body => Sys2Proof.Machine.execDepart p tag body s
  | .setIntent p tag body => Sys2Proof.Machine.execSetIntent p tag body s
  | .emptied p tag body => Sys2Proof.Machine.execEmptied p tag body s
  | .voidRelease p tag body => Sys2Proof.Machine.execVoidRelease p tag body s
  | .cancelWash p tag body => Sys2Proof.Machine.execCancelWash p tag body s
  | .readLoop p tag body => Sys2Proof.Machine.execReadLoop p tag body s
  | .readInstruments p tag body => Sys2Proof.Machine.execReadInstruments p tag body s
  | .dock p tag body => Sys2Proof.Machine.execDock p tag body s
  | .undock p tag body => Sys2Proof.Machine.execUndock p tag body s
  | .startWash p tag body => Sys2Proof.Machine.execStartWash p tag body s
  | .phaseGo p tag body => Sys2Proof.Machine.execPhaseGo p tag body s
  | .abortWash p tag body => Sys2Proof.Machine.execAbortWash p tag body s
  | .inspectPass p tag body => Sys2Proof.Machine.execInspectPass p tag body s
  | .inspectFail p tag body => Sys2Proof.Machine.execInspectFail p tag body s
  | .fillStart p tag body => Sys2Proof.Machine.execFillStart p tag body s
  | .fillEnd p tag body => Sys2Proof.Machine.execFillEnd p tag body s
  | .fillAbort p tag body => Sys2Proof.Machine.execFillAbort p tag body s
  | .writeClass p tag body => Sys2Proof.Machine.execWriteClass p tag body s
  | .writeProgram p tag body => Sys2Proof.Machine.execWriteProgram p tag body s
  | .writeFollow p tag body => Sys2Proof.Machine.execWriteFollow p tag body s
  | .writeRoute p tag body => Sys2Proof.Machine.execWriteRoute p tag body s
  | .writeSetting p tag body => Sys2Proof.Machine.execWriteSetting p tag body s
  | .readClass p tag body => Sys2Proof.Machine.execReadClass p tag body s
  | .readProgram p tag body => Sys2Proof.Machine.execReadProgram p tag body s
  | .readFollow p tag body => Sys2Proof.Machine.execReadFollow p tag body s
  | .readRoute p tag body => Sys2Proof.Machine.execReadRoute p tag body s
  | .readSetting p tag body => Sys2Proof.Machine.execReadSetting p tag body s
  | .setClock p tag body => Sys2Proof.Machine.execSetClock p tag body s
  | .openYard p tag body => Sys2Proof.Machine.execOpenYard p tag body s
  | .yardReset p tag body => Sys2Proof.Machine.execYardReset p tag body s
  | .yardResetEffect => Sys2Proof.Machine.execYardResetEffect s
  | .coldStart => Sys2Proof.Machine.execColdStart s
  | .powerReturn => Sys2Proof.Machine.execPowerReturn s
  | .mainPowerLoss => Sys2Proof.Machine.execMainPowerLoss s
  | .requestByteReceived p b framingError => Sys2Proof.Machine.execRequestByteReceived p b framingError s
  | .interByteTimeout p => Sys2Proof.Machine.execInterByteTimeout p s
  | .answerSendComplete p => Sys2Proof.Machine.execAnswerSendComplete p s
  | .scanConversion ch code => Sys2Proof.Machine.execScanConversion ch code s
  | .pulseSample meter level => Sys2Proof.Machine.execPulseSample meter level s
  | .lineSample line level => Sys2Proof.Machine.execLineSample line level s
  | .grant => Sys2Proof.Machine.execGrant s
  | .accountingIntervalClose b => Sys2Proof.Machine.execAccountingIntervalClose b s
  | .phaseTimerTick b => Sys2Proof.Machine.execPhaseTimerTick b s
  | .phaseTimerExpiry b => Sys2Proof.Machine.execPhaseTimerExpiry b s
  | .handoverTimerExpiry b => Sys2Proof.Machine.execHandoverTimerExpiry b s
  | .reEntryTimerExpiry b => Sys2Proof.Machine.execReEntryTimerExpiry b s
  | .holdTimerExpiry b => Sys2Proof.Machine.execHoldTimerExpiry b s
  | .washHold b => Sys2Proof.Machine.execWashHold b s
  | .washResume b => Sys2Proof.Machine.execWashResume b s
  | .fillStoppedMark => Sys2Proof.Machine.execFillStoppedMark s
  | .sweepTick b => Sys2Proof.Machine.execSweepTick b s
  | .releaseTimerCheck => Sys2Proof.Machine.execReleaseTimerCheck s
  | .releaseLapse r => Sys2Proof.Machine.execReleaseLapse r s
  | .yardClockSecond => Sys2Proof.Machine.execYardClockSecond s
  | .backupSupplyLoss => Sys2Proof.Machine.execBackupSupplyLoss s
  | .ageMillisecond => Sys2Proof.Machine.execAgeMillisecond s

end Sys2Proof.Machine
end

