-- ==== Sys2Proof/Safety.lean ====
section
/-! DEFINITION. The terms the statements are made in: a port that takes a request at once, the state with an answer
being sent, requests by their kind, and the laws a state of the part keeps. Each law is named for what it says and
cites its rules; what the manual says only of a powered part, or only of a retained domain that has not lost its
contents, is guarded so. -/

namespace Sys2Proof

open Machine

/-! ## Requests by kind -/

/-- The command of a complete request frame of a kind. -/
def requestOf : Kind → Port → Byte → List Byte → Instr
  | .status => .status
  | .events => .events
  | .ackLine => .ackLine
  | .resume => .resume
  | .readTanker => .readTanker
  | .readCompartment => .readCompartment
  | .admitTanker => .admitTanker
  | .depart => .depart
  | .setIntent => .setIntent
  | .emptied => .emptied
  | .voidRelease => .voidRelease
  | .cancelWash => .cancelWash
  | .readLoop => .readLoop
  | .readInstruments => .readInstruments
  | .dock => .dock
  | .undock => .undock
  | .startWash => .startWash
  | .phaseGo => .phaseGo
  | .abortWash => .abortWash
  | .inspectPass => .inspectPass
  | .inspectFail => .inspectFail
  | .fillStart => .fillStart
  | .fillEnd => .fillEnd
  | .fillAbort => .fillAbort
  | .writeClass => .writeClass
  | .writeProgram => .writeProgram
  | .writeFollow => .writeFollow
  | .writeRoute => .writeRoute
  | .writeSetting => .writeSetting
  | .readClass => .readClass
  | .readProgram => .readProgram
  | .readFollow => .readFollow
  | .readRoute => .readRoute
  | .readSetting => .readSetting
  | .setClock => .setClock
  | .openYard => .openYard
  | .yardReset => .yardReset

/-- A request taken apart. -/
structure Request where
  kind : Kind
  port : Port
  tag : Byte
  body : List Byte
deriving DecidableEq, Repr

/-- The request a command is; an event is none. -/
def Instr.request? : Instr → Option Request
  | .status p t b => some ⟨.status, p, t, b⟩
  | .events p t b => some ⟨.events, p, t, b⟩
  | .ackLine p t b => some ⟨.ackLine, p, t, b⟩
  | .resume p t b => some ⟨.resume, p, t, b⟩
  | .readTanker p t b => some ⟨.readTanker, p, t, b⟩
  | .readCompartment p t b => some ⟨.readCompartment, p, t, b⟩
  | .admitTanker p t b => some ⟨.admitTanker, p, t, b⟩
  | .depart p t b => some ⟨.depart, p, t, b⟩
  | .setIntent p t b => some ⟨.setIntent, p, t, b⟩
  | .emptied p t b => some ⟨.emptied, p, t, b⟩
  | .voidRelease p t b => some ⟨.voidRelease, p, t, b⟩
  | .cancelWash p t b => some ⟨.cancelWash, p, t, b⟩
  | .readLoop p t b => some ⟨.readLoop, p, t, b⟩
  | .readInstruments p t b => some ⟨.readInstruments, p, t, b⟩
  | .dock p t b => some ⟨.dock, p, t, b⟩
  | .undock p t b => some ⟨.undock, p, t, b⟩
  | .startWash p t b => some ⟨.startWash, p, t, b⟩
  | .phaseGo p t b => some ⟨.phaseGo, p, t, b⟩
  | .abortWash p t b => some ⟨.abortWash, p, t, b⟩
  | .inspectPass p t b => some ⟨.inspectPass, p, t, b⟩
  | .inspectFail p t b => some ⟨.inspectFail, p, t, b⟩
  | .fillStart p t b => some ⟨.fillStart, p, t, b⟩
  | .fillEnd p t b => some ⟨.fillEnd, p, t, b⟩
  | .fillAbort p t b => some ⟨.fillAbort, p, t, b⟩
  | .writeClass p t b => some ⟨.writeClass, p, t, b⟩
  | .writeProgram p t b => some ⟨.writeProgram, p, t, b⟩
  | .writeFollow p t b => some ⟨.writeFollow, p, t, b⟩
  | .writeRoute p t b => some ⟨.writeRoute, p, t, b⟩
  | .writeSetting p t b => some ⟨.writeSetting, p, t, b⟩
  | .readClass p t b => some ⟨.readClass, p, t, b⟩
  | .readProgram p t b => some ⟨.readProgram, p, t, b⟩
  | .readFollow p t b => some ⟨.readFollow, p, t, b⟩
  | .readRoute p t b => some ⟨.readRoute, p, t, b⟩
  | .readSetting p t b => some ⟨.readSetting, p, t, b⟩
  | .setClock p t b => some ⟨.setClock, p, t, b⟩
  | .openYard p t b => some ⟨.openYard, p, t, b⟩
  | .yardReset p t b => some ⟨.yardReset, p, t, b⟩
  | .yardResetEffect | .coldStart | .powerReturn | .mainPowerLoss => none
  | .requestByteReceived _ _ _ | .interByteTimeout _ | .answerSendComplete _ => none
  | .scanConversion _ _ | .pulseSample _ _ | .lineSample _ _ | .grant => none
  | .accountingIntervalClose _ | .phaseTimerTick _ | .phaseTimerExpiry _ | .handoverTimerExpiry _ => none
  | .reEntryTimerExpiry _ | .holdTimerExpiry _ | .washHold _ | .washResume _ | .fillStoppedMark => none
  | .sweepTick _ | .releaseTimerCheck | .releaseLapse _ | .yardClockSecond | .backupSupplyLoss | .ageMillisecond => none

namespace Machine

/-! ## Ports -/

/-- A port takes a complete frame at once (R163): main power is on, no answer is being sent, the holding slot is
empty, and no YARD-RESET waits to take effect (R170). -/
structure State.Ready (s : State) (p : Port) : Prop where
  power : s.mainPower = true
  idle : (s.port p).sending = none
  slotEmpty : (s.port p).holding = none
  noReset : s.act.yardReset ≠ .due

/-- The state with an answer to a request of kind `k` being sent at a port (R163, R164). -/
def State.replies (s : State) (p : Port) (k : Kind) (tag : Byte) (code : AnswerCode) (body : List Byte) : State :=
  s.setPort p { s.port p with sending := some ⟨k.byte, tag, code, body⟩ }

/-- The yard is OPEN. -/
abbrev State.IsOpen (s : State) : Prop := s.act.mode = .opened

/-- Run commands one after another; none of them is expected to stop. -/
def State.runAll (s : State) : List Instr → Option State
  | [] => some s
  | i :: rest =>
    match exec i s with
    | .next t => t.runAll rest
    | .fault _ | .refused _ => none

/-! ## The laws of the notice store, the instruments and the retained numbers -/

/-- A port's attention line is asserted exactly while one of its two sets is non-empty (R161). -/
abbrev State.AttentionLaw (s : State) : Prop :=
  ∀ j : Fin 6, (s.act.notices[j]).attention
    = (anyOf (s.act.notices[j]).pendingLines || anyOf (s.act.notices[j]).changed)

/-- A port's pending-line set holds only lines whose route names the port (R158), and its changed-compartment set only
references to records in use (R11, R157, R159). -/
abbrev State.PendingLaw (s : State) : Prop :=
  s.mainPower = true → ∀ j : Fin 6,
    (∀ l : Line, (s.act.notices[j]).pendingLines[l] = true → (s.ret.routes[l]).notify[j] = true)
    ∧ ∀ r : RecordRef, (s.act.notices[j]).changed[r] = true → (s.ret.pool[r]).isSome = true

/-- The supply temperature each wash unit holds agrees with slot 0 of the converter, value and age (R88, R104). -/
abbrev State.SupplyLaw (s : State) : Prop :=
  s.mainPower = true → ∀ b : Bay, (s.act.units[b]).supply
    = (s.act.slots[(0 : Probe)]).lastGood.map (fun v => ⟨v, (s.act.slots[(0 : Probe)]).age⟩)

/-- A number is one of 1, 2, 4 and 8. -/
abbrev OneTwoFourEight (n : Nat) : Prop := n = 1 ∨ n = 2 ∨ n = 4 ∨ n = 8

/-- A phase record is in the ranges of R28. -/
abbrev Phase.InRange (ph : Phase) : Prop :=
  1 ≤ ph.demandQ ∧ ph.demandQ ≤ 8000000 ∧ ph.floor ≤ 190 ∧ 1 ≤ ph.shares ∧ ph.shares ≤ 4
    ∧ 60 ≤ ph.maxDuration ∧ ph.maxDuration ≤ 7200
    ∧ ph.sweepLow ≤ ph.sweepHigh ∧ ph.sweepHigh ≤ 4095 ∧ ph.sweepStep ≤ 255
    ∧ ∀ e ∈ ph.endpoint, e.limit ≤ 2042 ∧ OneTwoFourEight e.qualifying

/-- The counters of the instruments, the lines, the accounts and the ports stand in their ranges: filter run counts 0 to
7 (R107, R147), commissioning totals (R108), ages (R101, R88), interval counts (R85), endpoint counters (R5, R42) and
discard counts (R166). -/
abbrev Active.CountersInRange (a : Active) : Prop :=
  (∀ m : Fin 5, (a.pulses[m]).filter.run ≤ 7 ∧ (a.pulses[m]).total ≤ 65535)
    ∧ (∀ l : Line, (a.lines[l]).run ≤ 7)
    ∧ (∀ ch : Probe, (a.slots[ch]).age ≤ 65535)
    ∧ (∀ b : Bay, (a.units[b]).intervalCount ≤ 1000 ∧ (a.units[b]).endpointCounter ≤ 8
        ∧ ∀ x ∈ (a.units[b]).supply, x.age ≤ 65535)
    ∧ ∀ j : Fin 6, (a.ports[j]).discards ≤ 255

/-- The retained numbers stand in their ranges: settings (R174, R175), clock (R172), certificate counter (R119),
programs (R28), route filters (R148). A powered part has a valid marker (R169), C is its copy of setting 1 (R75), and
its counters are in range. -/
abbrev State.RangeLaw (s : State) : Prop :=
  (s.ret.markerValid = true →
    (∀ i : Fin 25, settingLow i ≤ s.ret.settings[i] ∧ s.ret.settings[i] ≤ settingHigh i
        ∧ (isFilterSetting i = true → OneTwoFourEight s.ret.settings[i]))
      ∧ s.ret.clock ≤ 4294967295 ∧ 1 ≤ s.ret.certificate ∧ s.ret.certificate ≤ 999999
      ∧ (∀ k : ProgramNo, (s.ret.programs[k]).length ≤ 8 ∧ ∀ ph ∈ s.ret.programs[k], ph.InRange)
      ∧ (∀ l : Line, OneTwoFourEight (s.ret.routes[l]).filterN))
    ∧ (s.mainPower = true →
      s.ret.markerValid = true ∧ s.act.arbiter.capacity = s.ret.loopCapacity ∧ s.act.CountersInRange)

/-- A bay whose sweep generator is stopped has its valve at 0 and its sweep at the park value; one whose generator
runs has its sweep at the position (R111, R114). -/
abbrev State.OutputsLaw (s : State) : Prop :=
  s.mainPower = true → ∀ b : Bay,
    ((s.act.outputs[b]).generator = none →
        (s.act.outputs[b]).valve = 0 ∧ (s.act.outputs[b]).sweep = s.ret.parkValue b)
      ∧ (∀ w ∈ (s.act.outputs[b]).generator, (s.act.outputs[b]).sweep = w.position)

/-! ## The law of the yard table -/

/-- A character of a token: A to Z or 0 to 9, as its ASCII code (R1, log entry 5). -/
abbrev TokenChar (b : Byte) : Prop := (65 ≤ b.toNat ∧ b.toNat ≤ 90) ∨ (48 ≤ b.toNat ∧ b.toNat ≤ 57)

/-- A token: 1 to 8 characters (R1). -/
abbrev TokenFits (token : List Byte) : Prop := token ≠ [] ∧ token.length ≤ 8 ∧ ∀ b ∈ token, TokenChar b

/-- A tanker's token, and its compartment list of 1 to 8 references to records in use, each numbered by its place
(R1, R4). -/
abbrev Retained.ListsOwn (r : Retained) (t : Tanker) : Prop :=
  TokenFits t.token ∧ 1 ≤ t.compartments.length ∧ t.compartments.length ≤ 8 ∧ t.compartments.Nodup
    ∧ ∀ n : Fin 8, ∀ k ∈ t.compartments[n.val]?, ∃ c ∈ r.pool[k], c.number = n.val + 1

/-- The yard table's law (R1, R2, R3, R12): a record is free exactly when the free list holds it, once; a record in
use is listed by exactly one tanker; no two tankers share a record or a token; and a position's binding and the
binding field of the tanker always agree. -/
abbrev State.YardTableLaw (s : State) : Prop :=
  s.ret.markerValid = true →
    s.ret.freeList.Nodup
    ∧ (∀ k : RecordRef, (s.ret.pool[k]).isNone = true ↔ k ∈ s.ret.freeList)
    ∧ (∀ k : RecordRef, (s.ret.pool[k]).isSome = true → ∃ i : Slot, ∃ t ∈ s.ret.tankers[i], k ∈ t.compartments)
    ∧ (∀ i : Slot, ∀ t ∈ s.ret.tankers[i], s.ret.ListsOwn t)
    ∧ (∀ i j : Slot, i ≠ j → ∀ t ∈ s.ret.tankers[i], ∀ u ∈ s.ret.tankers[j],
        t.token ≠ u.token ∧ ∀ k ∈ t.compartments, k ∉ u.compartments)
    ∧ (∀ q : Fin 5, ∀ i ∈ s.ret.bindings[q], ∃ t ∈ s.ret.tankers[i], ∃ p ∈ t.binding, p.index = q)
    ∧ (∀ i : Slot, ∀ t ∈ s.ret.tankers[i], ∀ p ∈ t.binding, s.ret.bindings[p.index] = some i)

/-! ## The law of the compartment records -/

/-- A state that carries a wash summary (R4). -/
def CState.hasSummary : CState → Bool
  | .washed | .released | .filling | .laden => true
  | .dirty | .queued | .running | .handover | .held => false

/-- A state that carries a release (R4, R118). -/
def CState.hasRelease : CState → Bool
  | .released | .filling | .laden => true
  | .dirty | .queued | .running | .handover | .held | .washed => false

/-- A state that carries a fill (R4). -/
def CState.hasFill : CState → Bool
  | .filling | .laden => true
  | .dirty | .queued | .running | .handover | .held | .washed | .released => false

/-- The optional parts a record carries are those of its state (R4). -/
abbrev Compartment.PartsFit (c : Compartment) : Prop :=
  (c.state = .laden → c.intent = none) ∧ (c.state ≠ .dirty → c.state ≠ .laden → c.intent.isSome = true)
    ∧ c.demand.isSome = c.intent.isSome ∧ c.program.isSome = asksWash c.demand
    ∧ (c.state.isWash = true → asksWash c.demand = true) ∧ c.progress.isSome = c.state.isWash
    ∧ c.summary.isSome = c.state.hasSummary ∧ c.release.isSome = c.state.hasRelease
    ∧ c.fill.isSome = c.state.hasFill

/-- A record stands in HANDOVER, or is held from it: its current phase is complete (R49, R51, R62). -/
abbrev Compartment.AtHandover (c : Compartment) (p : Progress) : Prop :=
  c.state = .handover ∨ p.heldFrom = some .handover

/-- A progress part in the ranges of R5, at a phase of the record's program (R28, R52), with one phase dose for each
phase completed (R49); held-from and held-since stand in HELD only. -/
abbrev State.ProgressFits (s : State) (c : Compartment) (p : Progress) : Prop :=
  1 ≤ p.phaseIndex ∧ p.phaseIndex ≤ s.phaseCount c ∧ p.dose ≤ 16777215 ∧ p.remainder ≤ 19
    ∧ p.runningTime ≤ 7200 ∧ p.endpointCount ≤ 8
    ∧ (p.heldFrom.isSome = true ↔ c.state = .held) ∧ (p.heldSince.isSome = true ↔ c.state = .held)
    ∧ (∀ x ∈ p.heldFrom, x = .queued ∨ x = .running ∨ x = .handover)
    ∧ (c.AtHandover p → p.phaseIndex < s.phaseCount c ∧ p.phaseDoses.length = p.phaseIndex)
    ∧ (¬ c.AtHandover p → p.phaseDoses.length + 1 = p.phaseIndex)

/-- The classes a record names are defined (R22, R23). -/
abbrev Retained.NamesDefined (r : Retained) (c : Compartment) : Prop :=
  (∀ k ∈ c.history, (r.classes[k]).isSome = true) ∧ (∀ k ∈ c.intent, (r.classes[k]).isSome = true)
    ∧ (∀ x ∈ c.release, (r.classes[x.releasedFor]).isSome = true)

/-- The law of the compartment records: capacity and history in range, the parts of the state (R4, R5), the classes
named defined (R23), the released-for class equal to the intent in RELEASED and FILLING (R118), and the fill of the
released-for class, with its preset within the capacity and its count in range (R132, R133). -/
abbrev State.RecordLaw (s : State) : Prop :=
  s.ret.markerValid = true → ∀ k : RecordRef, ∀ c ∈ s.ret.pool[k],
    500 ≤ c.capacity ∧ c.capacity ≤ 30000 ∧ c.history.length ≤ 3 ∧ c.PartsFit ∧ s.ret.NamesDefined c
      ∧ (∀ p ∈ c.progress, s.ProgressFits c p) ∧ (∀ w ∈ c.summary, w.phaseDoses.length ≤ 8)
      ∧ (c.state = .released ∨ c.state = .filling → c.release.map (·.releasedFor) = c.intent)
      ∧ (∀ f ∈ c.fill, c.release.map (·.releasedFor) = some f.cargo ∧ 1 ≤ f.preset ∧ f.preset ≤ c.capacity
          ∧ f.counted ≤ 999999)

/-! ## The laws of the wash units, the arbiter and the rack fill unit -/

/-- The compartment a bay's wash unit is active with is in a state. -/
abbrev State.BayIn (s : State) (b : Bay) (x : CState) : Prop :=
  ∃ r ∈ (s.act.units[b]).active, ∃ c ∈ s.ret.pool[r], c.state = x

/-- Each timer of a bay's wash unit runs exactly in the state R42 gives it, the interval's meter constant is set exactly
while an interval is under way (R84), and the endpoint counter agrees with the endpoint count it writes (R42, R64). -/
abbrev State.UnitFits (s : State) (b : Bay) : Prop :=
  ((s.act.units[b]).phaseTimer = true ↔ s.BayIn b .running)
    ∧ ((s.act.units[b]).intervalTimer = true ↔ s.BayIn b .running)
    ∧ ((s.act.units[b]).intervalK.isSome = true ↔ s.BayIn b .running)
    ∧ ((s.act.units[b]).handoverTimer.isSome = true ↔ s.BayIn b .handover)
    ∧ ((s.act.units[b]).reEntryTimer.isSome = true ↔ ∃ r ∈ (s.act.units[b]).active, ∃ c ∈ s.ret.pool[r],
        c.state = .queued ∧ ∃ p ∈ c.progress, 2 ≤ p.phaseIndex)
    ∧ ((s.act.units[b]).holdTimer.isSome = true ↔ s.BayIn b .held)
    ∧ (∀ r ∈ (s.act.units[b]).active, ∀ c ∈ s.ret.pool[r], c.state = .running →
        ∀ p ∈ c.progress, p.endpointCount = (s.act.units[b]).endpointCounter)

/-- The wash units' law (R42, R43): an active unit's compartment is in a wash state and belongs to the tanker bound to
the bay; a record in a wash state is some unit's; no two units share one; and each unit's timers and endpoint counter
fit its compartment's state. -/
abbrev State.WashLaw (s : State) : Prop :=
  s.mainPower = true →
    (∀ b : Bay, ∀ r ∈ (s.act.units[b]).active,
        (∃ c ∈ s.ret.pool[r], c.state.isWash = true) ∧ s.ownerBinding r = some (.bay b))
    ∧ (∀ r : RecordRef, ∀ c ∈ s.ret.pool[r], c.state.isWash = true →
        ∃ b : Bay, (s.act.units[b]).active = some r)
    ∧ (∀ b b' : Bay, b ≠ b' → ∀ r ∈ (s.act.units[b]).active, (s.act.units[b']).active ≠ some r)
    ∧ ∀ b : Bay, s.UnitFits b

/-- A queue entry stands for a QUEUED compartment of its bay, with 1 to 4 shares and a pass count of at most 3 (R68). -/
abbrev State.EntryFits (s : State) (e : QueueEntry) : Prop :=
  (s.act.units[e.bay]).active = some e.ref ∧ (∃ c ∈ s.ret.pool[e.ref], c.state = .queued)
    ∧ 1 ≤ e.shares ∧ e.shares ≤ 4 ∧ e.passCount ≤ 3

/-- The arbiter's law (R67, R68, R111): G is the sum of the shares held by RUNNING compartments and at most 12; the
queue holds each QUEUED compartment once and nothing else, and only its head has a pass count; a compartment that is
not RUNNING holds no shares; a bay's sweep generator runs exactly while its compartment is RUNNING; the BLOCK-GRANTS
line set is exactly the active, unmasked lines whose action is BLOCK-GRANTS (R78); and a grant request on its way names
a queued compartment, the head's or one behind a head passed fewer than three times (R72, log entry 6). -/
abbrev State.LoopLaw (s : State) : Prop :=
  s.mainPower = true →
    s.act.arbiter.granted = s.sharesAt 0 + s.sharesAt 1 + s.sharesAt 2 + s.sharesAt 3
    ∧ s.act.arbiter.granted ≤ 12
    ∧ (∀ e ∈ s.act.arbiter.queue, s.EntryFits e)
    ∧ (s.act.arbiter.queue.map (·.ref)).Nodup
    ∧ (∀ e ∈ s.act.arbiter.queue.tail, e.passCount = 0)
    ∧ (∀ r : RecordRef, ∀ c ∈ s.ret.pool[r], c.state = .queued → r ∈ s.act.arbiter.queue.map (·.ref))
    ∧ (∀ r : RecordRef, ∀ c ∈ s.ret.pool[r], ∀ p ∈ c.progress, p.sharesHeld ≤ 4
        ∧ (c.state ≠ .running → p.sharesHeld = 0))
    ∧ (∀ b : Bay, (s.act.outputs[b]).generator.isSome = true ↔
        ∃ r ∈ (s.act.units[b]).active, ∃ c ∈ s.ret.pool[r], c.state = .running)
    ∧ (∀ l : Line, s.act.arbiter.blockLines[l] = true ↔
        (s.act.lines[l]).accepted = (if (s.ret.routes[l]).polarity = .activeLow then Level.low else Level.high)
          ∧ (s.ret.routes[l]).masked = false ∧ (s.ret.routes[l]).action = .blockGrants)
    ∧ (∀ r ∈ s.act.arbiter.sent, r ∈ s.act.arbiter.queue.map (·.ref)
        ∧ ∀ head ∈ s.act.arbiter.queue.head?, head.ref = r ∨ head.passCount < 3)

/-- The rack fill unit's law (R132): the unit holds a compartment exactly when that compartment is FILLING, so at most
one is, and its tanker is bound to the rack. The cause OVERFILL is in no hold set but the rack's (R151). -/
abbrev State.FillLaw (s : State) : Prop :=
  s.mainPower = true →
    (∀ r : RecordRef, (∃ c ∈ s.ret.pool[r], c.state = .filling) ↔ s.act.fillUnit.active = some r)
    ∧ (∀ r ∈ s.act.fillUnit.active, s.ownerBinding r = some .rack)
    ∧ ∀ q : Fin 5, q.val < 4 → (s.act.holds[q]).overfill = false

/-- The yard mode's law: the RECOVERY cause is set exactly in RECOVERY (R79) and the release timer runs exactly in OPEN
(R125); in RECOVERY no position has a binding, and no compartment is in a wash state or FILLING (R170, R171, R173). -/
abbrev State.ModeLaw (s : State) : Prop :=
  s.mainPower = true →
    (s.act.arbiter.recovery = true ↔ s.act.mode = .recovery)
    ∧ (s.act.releaseTimer = true ↔ s.act.mode = .opened)
    ∧ (s.act.mode = .recovery →
      (∀ q : Fin 5, s.ret.bindings[q] = none)
        ∧ ∀ r : RecordRef, ∀ c ∈ s.ret.pool[r], c.state.isWash = false ∧ c.state ≠ .filling)

/-- All the laws together. -/
structure State.Sound (s : State) : Prop where
  attention : s.AttentionLaw
  waiting : s.PendingLaw
  supply : s.SupplyLaw
  ranges : s.RangeLaw
  outputs : s.OutputsLaw
  table : s.YardTableLaw
  records : s.RecordLaw
  washing : s.WashLaw
  loop : s.LoopLaw
  filling : s.FillLaw
  mode : s.ModeLaw

/-! ## What the statements about requests and events compare with -/

/-- The body of an ADMIT as sent: token characters, count, and for each compartment its capacity bytes, history length
and history. -/
abbrev admitBody (token : List Byte) (sent : List (Byte × Byte × List Byte)) : List Byte :=
  token ++ byte1 sent.length ++ sent.flatMap (fun x => [x.1, x.2.1] ++ byte1 x.2.2.length ++ x.2.2)

/-- A phase record as it may be sent (2.3, R29): with the endpoint flag at 0 the bytes of L and N take any value and are
not checked. -/
def Phase.sentBytes (ph : Phase) (l1 l2 n : Byte) : List Byte :=
  byte1 (match ph.kind with | .preRinse => 1 | .detergent => 2 | .hotRinse => 3 | .finalRinse => 4)
    ++ byte1 (match ph.basis with | .thermal => 1 | .volume => 2) ++ byte3 ph.demandQ ++ byte1 ph.floor
    ++ byte1 ph.shares ++ byte2 ph.maxDuration
    ++ (match ph.endpoint with
      | none => [0#8, l1, l2, n]
      | some e => [1#8] ++ byte2 e.limit ++ byte1 e.qualifying)
    ++ byte2 ph.sweepLow ++ byte2 ph.sweepHigh ++ byte1 ph.sweepStep

/-- A field of an answer body: its offset, its bytes, and the number it reports. -/
structure Field where
  offset : Nat
  bytes : Nat
  value : Nat
deriving DecidableEq, Repr

/-- The bytes of a field, most significant first (10.6). -/
def Field.sent (f : Field) : List Byte :=
  (List.range f.bytes).map (fun j => BitVec.ofNat 8 (f.value / 256 ^ (f.bytes - 1 - j)))

/-- The fields of READ-COMPARTMENT's answer as the table of 10.6 lays them out; the fields of an absent part and the
entries beyond a list's count are 0. -/
def Named.fields (x : Named) : List Field :=
  let c := x.record
  let flag : Bool → Nat := fun b => if b = true then 1 else 0
  let ofIntent : (ClassNo → Nat) → Nat := fun f => (c.intent.map f).getD 0
  let ofProgress : (Progress → Nat) → Nat := fun f => (c.progress.map f).getD 0
  let ofSummary : (WashSummary → Nat) → Nat := fun f => (c.summary.map f).getD 0
  let ofRelease : (Release → Nat) → Nat := fun f => (c.release.map f).getD 0
  let ofFill : (Fill → Nat) → Nat := fun f => (c.fill.map f).getD 0
  [⟨0, 1, x.ref.val⟩, ⟨1, 1, x.slot.val + 1⟩, ⟨2, 1, c.number⟩, ⟨3, 2, c.capacity⟩, ⟨5, 1, c.state.code⟩,
    ⟨6, 1, c.history.length⟩]
  ++ (List.range 3).map (fun j => ⟨7 + j, 1, (c.history[j]?.map (fun k => k.val + 1)).getD 0⟩)
  ++ [⟨10, 1, (c.note.map Note.code).getD 0⟩, ⟨11, 1, flag c.intent.isSome⟩, ⟨12, 1, ofIntent (fun k => k.val + 1)⟩,
    ⟨13, 1, ofIntent (fun _ => (c.demand.map Demand.code).getD 0)⟩,
    ⟨14, 1, ofIntent (fun _ => (c.program.map (fun k => k.val + 1)).getD 0)⟩]
  ++ [⟨15, 1, flag c.progress.isSome⟩, ⟨16, 1, ofProgress (·.phaseIndex)⟩, ⟨17, 3, ofProgress (·.dose)⟩,
    ⟨20, 1, ofProgress (·.remainder)⟩, ⟨21, 2, ofProgress (·.runningTime)⟩, ⟨23, 1, ofProgress (·.endpointCount)⟩,
    ⟨24, 1, ofProgress (·.sharesHeld)⟩,
    ⟨25, 1, ofProgress (fun p => flag p.marks.clamped + 2 * flag p.marks.stale + 4 * flag p.marks.overrange
      + 8 * flag p.marks.probe)⟩,
    ⟨26, 1, ofProgress (fun p => (p.heldFrom.map CState.code).getD 0)⟩, ⟨27, 4, ofProgress (·.queuedSince)⟩,
    ⟨31, 4, ofProgress (fun p => p.heldSince.getD 0)⟩, ⟨35, 1, ofProgress (·.phaseDoses.length)⟩]
  ++ (List.range 7).map (fun j => ⟨36 + 3 * j, 3, ofProgress (fun p => (p.phaseDoses[j]?).getD 0)⟩)
  ++ [⟨57, 1, flag c.summary.isSome⟩, ⟨58, 1, ofSummary (·.kind.code)⟩, ⟨59, 1, ofSummary (·.phaseDoses.length)⟩]
  ++ (List.range 8).map (fun j => ⟨60 + 3 * j, 3, ofSummary (fun w => (w.phaseDoses[j]?).getD 0)⟩)
  ++ [⟨84, 1, ofSummary (fun w => flag w.finalConductivity.isSome)⟩,
    ⟨85, 2, ofSummary (fun w => w.finalConductivity.getD 0)⟩]
  ++ [⟨87, 1, flag c.release.isSome⟩, ⟨88, 3, ofRelease (·.certificate)⟩,
    ⟨91, 1, ofRelease (fun y => y.releasedFor.val + 1)⟩, ⟨92, 4, ofRelease (·.stamp)⟩,
    ⟨96, 4, ofRelease (·.deadline)⟩, ⟨100, 2, ofRelease (·.inspector)⟩]
  ++ [⟨102, 1, flag c.fill.isSome⟩, ⟨103, 1, ofFill (fun f => f.cargo.val + 1)⟩, ⟨104, 2, ofFill (·.preset)⟩,
    ⟨106, 3, ofFill (·.counted)⟩, ⟨109, 1, ofFill (fun f => flag f.reported.isSome)⟩,
    ⟨110, 2, ofFill (fun f => f.reported.getD 0)⟩,
    ⟨112, 1, ofFill (fun f => flag f.marks.clamped + 2 * flag f.marks.presetReached + 4 * flag f.marks.overfill
      + 8 * flag f.marks.stopped + 16 * flag f.marks.mismatch + 32 * flag f.marks.interrupted
      + 64 * flag f.marks.aborted)⟩]

/-- The lists of a record are no longer than its layout holds (10.6), as the law of the records has them. -/
abbrev Compartment.ListsFit (c : Compartment) : Prop :=
  c.history.length ≤ 3 ∧ (∀ p ∈ c.progress, p.phaseDoses.length ≤ 7) ∧ ∀ w ∈ c.summary, w.phaseDoses.length ≤ 8

/-- A record in use names a class in its history, its intent or its release (R22). -/
abbrev State.ClassInUse (s : State) (k : ClassNo) : Prop :=
  ∃ r : RecordRef, ∃ c ∈ s.ret.pool[r],
    k ∈ c.history ∨ c.intent = some k ∨ ∃ x ∈ c.release, x.releasedFor = k

/-- A compartment is in a wash state under a program (R29, R31). -/
abbrev Compartment.Washing (c : Compartment) (k : ProgramNo) : Prop :=
  (c.state = .queued ∨ c.state = .running ∨ c.state = .handover ∨ c.state = .held) ∧ c.program = some k

/-- The 18 bytes of a phase record with a field out of its range (R29). -/
abbrev BadPhase (ph : List Byte) : Prop :=
  ∀ k b q1 q2 q3 f d m1 m2 e l1 l2 n a1 a2 z1 z2 st,
    ph = [k, b, q1, q2, q3, f, d, m1, m2, e, l1, l2, n, a1, a2, z1, z2, st] →
    k.toNat = 0 ∨ 4 < k.toNat ∨ b.toNat = 0 ∨ 2 < b.toNat
      ∨ number [q1, q2, q3] = 0 ∨ 8000000 < number [q1, q2, q3] ∨ 190 < f.toNat
      ∨ d.toNat = 0 ∨ 4 < d.toNat ∨ number [m1, m2] < 60 ∨ 7200 < number [m1, m2] ∨ 1 < e.toNat
      ∨ (e.toNat = 1 ∧ (2042 < number [l1, l2] ∨ ¬ OneTwoFourEight n.toNat))
      ∨ 4095 < number [a1, a2] ∨ number [z1, z2] < number [a1, a2] ∨ 4095 < number [z1, z2]

/-- A bay's wash unit holds a compartment, and no other bay's does (R42, R43). -/
abbrev State.OnlyUnit (s : State) (b : Bay) (r : RecordRef) : Prop :=
  (s.act.units[b]).active = some r ∧ ∀ b' : Bay, b' ≠ b → (s.act.units[b']).active ≠ some r

/-- Bay b's compartment is RUNNING in a phase of its program. -/
structure State.Runs (s : State) (b : Bay) (r : RecordRef) (c : Compartment) (p : Progress) (ph : Phase) : Prop where
  unit : (s.act.units[b]).active = some r
  record : s.ret.pool[r] = some c
  running : c.state = .running
  progress : c.progress = some p
  phase : 1 ≤ p.phaseIndex ∧ ∃ k ∈ c.program, (s.ret.programs[k])[p.phaseIndex - 1]? = some ph

/-- Bay b's wash unit has no RUNNING compartment. -/
abbrev State.NotRunning (s : State) (b : Bay) : Prop :=
  ∀ r ∈ (s.act.units[b]).active, ∀ c ∈ s.ret.pool[r], c.state ≠ .running

/-- The scan of a grant decision picks an entry, as a backfill or not (R71, R72): no block cause is set, and the entry
is the head, which fits the room, or the first later entry that fits while the head does not and has been passed fewer
than three times. -/
abbrev Arbiter.ScanPicks (a : Arbiter) (e : QueueEntry) (backfill : Bool) : Prop :=
  ¬ (a.lowPressure = true ∨ (∃ l : Line, a.blockLines[l] = true) ∨ a.recovery = true)
    ∧ ∃ head later, a.queue = head :: later
      ∧ ((head.shares ≤ a.capacity - a.granted ∧ e = head ∧ backfill = false)
        ∨ (a.capacity - a.granted < head.shares ∧ head.passCount < 3 ∧ backfill = true
          ∧ ∃ pre post, later = pre ++ e :: post ∧ e.shares ≤ a.capacity - a.granted
            ∧ ∀ x ∈ pre, a.capacity - a.granted < x.shares))

/-- The compartment QUEUED and its request at the tail of the grant queue, its shares cut to C, with the decision that
follows (R46, R52, R62, R69, R71): `p` is the progress it joins with, `reEntry` the re-entry timer. -/
def State.queuedWith (s : State) (b : Bay) (r : RecordRef) (c : Compartment) (p : Progress) (ph : Phase)
    (reEntry : Option Nat) : State :=
  State.changeRecord { s with act := { s.act with
    arbiter := Arbiter.decided { s.act.arbiter with queue := s.act.arbiter.queue ++
      [⟨b, r, min ph.shares s.act.arbiter.capacity, decide (s.act.arbiter.capacity < ph.shares), 0⟩] }
        s.act.arbiter
    units := s.act.units.set b { s.act.units[b] with
      active := some r
      phaseTimer := false
      intervalTimer := false
      handoverTimer := none
      reEntryTimer := reEntry
      holdTimer := none } } } r
    { c with
      state := .queued
      note := none
      progress := some { p with
        sharesHeld := 0
        heldFrom := none
        heldSince := none
        queuedSince := s.ret.clock
        marks := { p.marks with clamped := p.marks.clamped || decide (s.act.arbiter.capacity < ph.shares) } } }

/-- The arbiter after a compartment leaves QUEUED or RUNNING other than by a grant: its entry removed (R70) or its
shares returned (R74), with the decision that follows (R71). -/
def Arbiter.left (a : Arbiter) (r : RecordRef) (c : Compartment) : Arbiter :=
  Arbiter.decided { a with
    granted := if c.state = .running then a.granted - (c.progress.map (·.sharesHeld)).getD 0 else a.granted
    queue := if c.state = .queued then a.queue.filter (fun e => e.ref ≠ r) else a.queue
    sent := if c.state = .queued ∧ a.sent = some r then none else a.sent } a

/-- The outputs of the bays after bay b's compartment leaves its state: parked together where it was RUNNING (R114). -/
def State.outputsLeft (s : State) (b : Bay) (c : Compartment) : Vector BayOutputs 4 :=
  if c.state = .running then s.act.outputs.set b ⟨0, s.ret.parkValue b, none⟩ else s.act.outputs

/-- A wash ended in DIRTY with a note (R55). -/
def State.endedInDirty (s : State) (b : Bay) (r : RecordRef) (c : Compartment) (note : Note) : State :=
  State.changeRecord { s with act := { s.act with
    arbiter := s.act.arbiter.left r c
    outputs := s.outputsLeft b c
    units := s.act.units.set b
      ⟨none, false, false, none, none, none, 0, none, (s.act.units[b]).supply, none, 0⟩ } } r
    { c with state := .dirty, note := some note, progress := none }

/-- A phase completed (R49): the last one in WASHED with its wash summary (R50), any other in HANDOVER (R51). `p` is
the progress as the update whose test passed leaves it, `d` the compartment's demand. -/
def State.phaseCompleted (s : State) (b : Bay) (r : RecordRef) (c : Compartment) (p : Progress) (ph : Phase)
    (d : Demand) : State :=
  let u := s.act.units[b]
  let out : Active := { s.act with
    arbiter := Arbiter.decided { s.act.arbiter with granted := s.act.arbiter.granted - p.sharesHeld } s.act.arbiter
    outputs := s.act.outputs.set b ⟨0, s.ret.parkValue b, none⟩ }
  if p.phaseIndex = s.phaseCount c then
    State.changeRecord { s with act := { out with
      units := s.act.units.set b ⟨none, false, false, none, none, none, 0, none, u.supply, none, 0⟩ } } r
      { c with
        state := .washed
        progress := none
        summary := some ⟨d, p.phaseDoses ++ [p.dose], if ph.endpoint = none then none else u.lastSample⟩ }
  else
    State.changeRecord { s with act := { out with
      units := s.act.units.set b { u with
        phaseTimer := false
        intervalTimer := false
        intervalCount := 0
        intervalK := none
        lastSample := none
        endpointCounter := 0
        handoverTimer := some s.ret.handoverLimit } } } r
      { c with
        state := .handover
        progress := some { p with sharesHeld := 0, phaseDoses := p.phaseDoses ++ [p.dose] } }

/-- The dose is at least the effective demand, Q or twice Q (R93), and the endpoint is absent or met (R94). -/
abbrev CompletionTest (d : Demand) (ph : Phase) (p : Progress) : Prop :=
  (if d = .deep then 2 * ph.demandQ else ph.demandQ) ≤ p.dose ∧ ∀ e ∈ ph.endpoint, p.endpointCount = e.qualifying

/-- What an unmasked line become active does under its route entry (R149): it joins the hold sets its action names, or
the BLOCK-GRANTS line set, and the pending-line set of each port of its notify set; the rack's hold set made non-empty
is met by the STOPPED update of an active rack fill unit (R137), one with an update already on its way (log entry 9). -/
def State.lineActs (s : State) (l : Line) (e : Route) : State :=
  { s with act := { s.act with
    holds := Vector.ofFn (fun q : Fin 5 =>
      let h := s.act.holds[q]
      if e.action = .holdAll ∧ q.val < 4 ∨ e.action = .stopRack ∧ q.val = 4
          ∨ ∃ b : Bay, e.action = .holdBay b ∧ q.val = b.val
      then { h with lines := h.lines.set l true } else h)
    fillUnit :=
      if e.action = .stopRack ∧ (s.hold .rack).nonEmpty = false ∧ s.act.fillUnit.active ≠ none then
        { s.act.fillUnit with stopDue := true } else s.act.fillUnit
    arbiter :=
      if e.action = .blockGrants then
        { s.act.arbiter with blockLines := s.act.arbiter.blockLines.set l true } else s.act.arbiter
    notices := Vector.ofFn (fun j : Fin 6 =>
      let n := s.act.notices[j]
      if e.notify[j] then Notice.settled (n.pendingLines.set l true) n.changed else n) } }

/-- Bay b's sweep is at a position, going in a direction, with its code following. -/
def State.sweepAt (s : State) (b : Bay) (position : Nat) (d : Direction) : State :=
  { s with act := { s.act with
    outputs := s.act.outputs.set b { s.act.outputs[b] with sweep := position, generator := some ⟨position, d⟩ } } }

/-- The active domain a start leaves, but for its arbiter's capacity, its outputs, its line filters and the office's
notices (R65, R82, R100, R106, R110, R116, R145, R151, R157, R167, R170). -/
def startedActive (capacity : Nat) (outputs : Vector BayOutputs 4) (lines : Vector Filter 16) (office : Notice) :
    Active where
  mode := .recovery
  arbiter := ⟨capacity, 0, [], true, Vector.replicate 16 false, true, none⟩
  units := Vector.replicate 4 ⟨none, false, false, none, none, none, 0, none, none, none, 0⟩
  slots := Vector.replicate 6 ⟨none, false, none, 65535⟩
  scanNext := 0
  pulses := Vector.replicate 5 ⟨⟨.low, 0⟩, 0⟩
  outputs := outputs
  lines := lines
  holds := Vector.replicate 5 ⟨Vector.replicate 16 false, false⟩
  notices := (Vector.replicate 6 ⟨Vector.replicate 16 false, Vector.replicate 64 false, false⟩).set 5 office
  fillUnit := ⟨none, false⟩
  releaseTimer := false
  lapsesDue := Vector.replicate 64 false
  ports := Vector.replicate 6 ⟨.hunting, none, none, 0⟩
  yardReset := .idle

/-- What a record becomes at a power return and at a YARD-RESET (R20): the wash states DIRTY with POWER-LOST, FILLING
LADEN with INTERRUPTED and the cargo put at the head of its history, and no other changed. -/
def Compartment.afterRestart (c : Compartment) : Compartment :=
  match c.state, c.fill with
  | .queued, _ | .running, _ | .handover, _ | .held, _ =>
    { c with state := .dirty, note := some .powerLost, progress := none }
  | .filling, some f =>
    { c with
      state := .laden
      history := (f.cargo :: c.history).take 3
      intent := none
      demand := none
      program := none
      fill := some { f with reported := none, marks := { f.marks with interrupted := true } } }
  | _, _ => c

/-- The whole state after the mapping of R20 and the restart of R170: every binding cleared, the active domain started
from the retained settings and routes, and the records changed in the office's changed set. -/
def State.restarted (s : State) : State :=
  let changed : RefSet := Vector.ofFn (fun r => match s.ret.pool[r] with
    | some c => decide (c.afterRestart.state ≠ c.state)
    | none => false)
  { s with
    ret := { s.ret with
      pool := s.ret.pool.map (fun o => o.map Compartment.afterRestart)
      tankers := s.ret.tankers.map (fun o => o.map (fun t => { t with binding := none }))
      bindings := Vector.replicate 5 none }
    act := startedActive s.ret.settings[0] (Vector.ofFn (fun b => ⟨0, s.ret.parkValue b, none⟩))
      (s.ret.routes.map (fun e => ⟨if e.polarity = .activeLow then .high else .low, 0⟩))
      ⟨Vector.replicate 16 false, changed, decide (∃ r : RecordRef, changed[r] = true)⟩
    mainPower := true }

end Machine

end Sys2Proof
end

