-- ==== Sys2Proof/Certificates/Slice0/Obligations.lean ====
section
/-! DEFINITION. The statements for the provers. The terms `Ready`, `replies`, `requestOf` and the laws of a state are in
Sys2Proof/Safety.lean. A statement about a command says what `exec` answers, as a whole next state: whatever the next
state's expression does not write is unchanged. -/

open Sys2Proof Sys2Proof.Machine

/-! ## The machine as a whole -/

/-- A step runs the command at the front of the queue on the state with the queue's rest; on an empty queue the part
idles. The queue is the model's own (log entry 1). -/
def Obligations.StepRunsFrontCommand : Prop :=
  (∀ (i : Instr) (rest : List Instr) (s : State),
      step { s with pending := i :: rest } = exec i { s with pending := rest })
    ∧ ∀ s : State, s.pending = [] → step s = .next s

/-- The state after reset keeps every law of Sys2Proof/Safety.lean. -/
def Obligations.ResetKeepsEveryLaw : Prop := State.reset.Sound

/-- Every command answers a next state and leaves the queue alone; a part without main power does nothing with any
command but the starts, the loss of the backup supply and the yard clock (R167, R168; log entry 11). That no command
stops the part is the model's deduction (log entry 19), and the queue is its own (log entry 1). -/
def Obligations.CommandsCompleteAndUnpoweredPartStands : Prop :=
  ∀ (i : Instr) (s : State),
    (∃ t, exec i s = .next t ∧ t.pending = s.pending)
      ∧ (s.mainPower = false → i ≠ .coldStart → i ≠ .powerReturn → i ≠ .backupSupplyLoss → i ≠ .yardClockSecond →
          exec i s = .next s)

/-! ## Station ports -/

/-- A request taken at once is answered with its kind and tag as received; a refusal other than LAPSED changes nothing
but the answer being sent, and has an empty body but for SET-INTENT refused BARRED and RESUME refused HELD (R164,
R165); from a state that keeps the laws no answer body is above 240 bytes (R164). -/
def Obligations.TakenRequestIsAnswered : Prop :=
  ∀ (k : Kind) (p : Port) (tag : Byte) (body : List Byte) (s : State), s.Ready p → body.length ≤ 240 →
    ∃ t code answer, exec (requestOf k p tag body) s = .next t
      ∧ (t.port p).sending = some ⟨k.byte, tag, code, answer⟩
      ∧ (code ≠ .ok → code ≠ .lapsed → t = s.replies p k tag code answer)
      ∧ (code ≠ .ok → answer = [] ∨ (k = .setIntent ∧ code = .barred ∧ answer.length = 1)
          ∨ (k = .resume ∧ code = .held ∧ answer.length = 2))
      ∧ (s.Sound → answer.length ≤ 240)

/-- The common checks in their order: kind, role, length, mode, binding (R165). The roles and lengths are those of
`catalogue`, which the tests hold against the table of 10.6. -/
def Obligations.CommonChecksInOrder : Prop :=
  ∀ (p : Port) (tag : Byte) (body : List Byte) (s : State), s.Ready p → body.length ≤ 240 →
    (∀ kind : Byte, (∀ k : Kind, k.byte ≠ kind) →
        s.frameCompletes p ⟨kind, tag, body⟩ =
          s.setPort p { s.port p with sending := some ⟨kind, tag, .format, []⟩ })
    ∧ ∀ k : Kind,
        (catalogue p k = none → exec (requestOf k p tag body) s = .next (s.replies p k tag .role []))
        ∧ ∀ e ∈ catalogue p k,
            (e.lengthOk body.length = false →
                exec (requestOf k p tag body) s = .next (s.replies p k tag .format []))
            ∧ (e.lengthOk body.length = true →
                (s.act.mode = .recovery →
                    k ∉ [.status, .events, .ackLine, .readTanker, .readCompartment] →
                    (p ≠ .office ∨ k = .setIntent) →
                    exec (requestOf k p tag body) s = .next (s.replies p k tag .recovery []))
                ∧ (s.IsOpen ∨ k ∈ [.readTanker, .readCompartment] →
                    k ∈ [.readTanker, .readCompartment, .startWash, .phaseGo, .abortWash, .inspectPass, .inspectFail,
                      .fillStart, .fillEnd, .fillAbort] →
                    (∃ pos ∈ p.position, s.binding pos = none) →
                    exec (requestOf k p tag body) s = .next (s.replies p k tag .unbound [])))

/-- Naming a compartment (R16): through the bound tanker from a bay or the rack, by slot and number from the office; a
number of 0 or above the count is answered NO-COMPARTMENT, a slot that is not 1 to 12 or is free NO-TANKER; in RECOVERY
as in OPEN for the kinds taken there (R165). -/
def Obligations.NamingACompartment : Prop :=
  ∀ (tag n : Byte) (rest : List Byte) (s : State),
    (∀ (pos : Position) (k : Kind) (i : Slot) (t : Tanker), s.Ready pos.port → s.IsOpen ∨ k = .readCompartment →
        s.binding pos = some i → s.ret.tankers[i] = some t →
        (∃ e ∈ catalogue pos.port k, e.needsBinding = true ∧ e.exact = true ∧ e.length = rest.length + 1) →
        (n.toNat = 0 ∨ t.compartments.length < n.toNat →
          exec (requestOf k pos.port tag (n :: rest)) s = .next (s.replies pos.port k tag .noCompartment []))
        ∧ ∀ r c, 1 ≤ n.toNat → t.compartments[n.toNat - 1]? = some r → s.ret.pool[r] = some c →
            s.nameBound pos n.toNat = .ok ⟨i, r, c⟩)
    ∧ ∀ (slot : Byte) (k : Kind), k ∈ [.readCompartment, .emptied, .voidRelease, .cancelWash, .setIntent] →
        s.Ready .office → s.IsOpen ∨ k ≠ .setIntent →
        (∃ e ∈ catalogue .office k, e.exact = true ∧ e.length = rest.length + 2) →
        ((slot.toNat = 0 ∨ 12 < slot.toNat ∨ ∃ i : Slot, slot.toNat = i.val + 1 ∧ s.ret.tankers[i] = none) →
          exec (requestOf k .office tag (slot :: n :: rest)) s = .next (s.replies .office k tag .noTanker []))
        ∧ ∀ i : Slot, ∀ t ∈ s.ret.tankers[i], slot.toNat = i.val + 1 →
            (n.toNat = 0 ∨ t.compartments.length < n.toNat →
              exec (requestOf k .office tag (slot :: n :: rest)) s
                = .next (s.replies .office k tag .noCompartment []))
            ∧ ∀ r c, 1 ≤ n.toNat → t.compartments[n.toNat - 1]? = some r → s.ret.pool[r] = some c →
                s.nameAtSlot slot.toNat n.toNat = .ok ⟨i, r, c⟩

/-- The taking order of a port (R163): a frame completing while an answer is sent waits in the holding slot, one that
finds the slot full is discarded and counted (R166); when an answer has been sent the frame held is taken. After the
answer to a YARD-RESET the reset comes first (R167, R170); that it is a command of its own, for which every port's
frames wait in their holding slots until it is made, is the model's reading (log entry 8). -/
def Obligations.TakingOrderOfAPort : Prop :=
  ∀ (p : Port) (s : State), s.mainPower = true →
    (∀ (k : Kind) (tag : Byte) (body : List Byte), body.length ≤ 240 →
        ((s.port p).holding.isSome = true →
          exec (requestOf k p tag body) s =
            .next (s.setPort p { s.port p with discards := min ((s.port p).discards + 1) 255 }))
        ∧ ((s.port p).holding = none → (s.port p).sending.isSome = true →
          exec (requestOf k p tag body) s =
            .next (s.setPort p { s.port p with holding := some ⟨k.byte, tag, body⟩ }))
        ∧ ((s.port p).holding = none → s.act.yardReset = .due →
          exec (requestOf k p tag body) s =
            .next (s.setPort p { s.port p with holding := some ⟨k.byte, tag, body⟩ })))
    ∧ ((s.port p).sending = none → exec (.answerSendComplete p) s = .next s)
    ∧ ((s.port p).sending.isSome = true →
        (¬ (p = .office ∧ s.act.yardReset = .answering) → (s.port p).holding = none →
          exec (.answerSendComplete p) s = .next (s.setPort p { s.port p with sending := none }))
        ∧ (s.act.yardReset = .due →
          exec (.answerSendComplete p) s = .next (s.setPort p { s.port p with sending := none }))
        ∧ (¬ (p = .office ∧ s.act.yardReset = .answering) → s.act.yardReset ≠ .due →
          ∀ f ∈ (s.port p).holding,
            exec (.answerSendComplete p) s =
              .next ((s.setPort p { s.port p with sending := none, holding := none }).take p f))
        ∧ (p = .office → s.act.yardReset = .answering →
          exec (.answerSendComplete p) s =
            .next { s.setPort p { s.port p with sending := none } with
              act := { (s.setPort p { s.port p with sending := none }).act with yardReset := .due } }))

/-- A port's receiver, byte by byte (R162): what it does while hunting, and the four cases that discard a partial
frame and count it (R166). A byte with a framing error while hunting is not the sync byte (log entry 10). -/
def Obligations.ReceiverTakesBytes : Prop :=
  ∀ (p : Port) (b : Byte) (err : Bool) (s : State), s.mainPower = true →
    ((s.port p).receiver = .hunting →
      (b = 0x3C#8 → err = false → exec (.requestByteReceived p b err) s =
        .next (s.setPort p { s.port p with receiver := .inFrame [] }))
      ∧ (b ≠ 0x3C#8 ∨ err = true → exec (.requestByteReceived p b err) s = .next s)
      ∧ exec (.interByteTimeout p) s = .next s)
    ∧ ∀ got : List Byte, (s.port p).receiver = .inFrame got →
      (exec (.interByteTimeout p) s = .next (s.setPort p
          { s.port p with receiver := .hunting, discards := min ((s.port p).discards + 1) 255 }))
      ∧ (err = true → exec (.requestByteReceived p b err) s = .next (s.setPort p
          { s.port p with receiver := .hunting, discards := min ((s.port p).discards + 1) 255 }))
      ∧ (err = false → got = [] → 240 < b.toNat → exec (.requestByteReceived p b err) s = .next (s.setPort p
          { s.port p with receiver := .hunting, discards := min ((s.port p).discards + 1) 255 }))
      ∧ (err = false → got = [] → b.toNat ≤ 240 → exec (.requestByteReceived p b err) s =
          .next (s.setPort p { s.port p with receiver := .inFrame [b] }))
      ∧ ∀ len more, got = len :: more → len.toNat ≤ 240 → err = false →
          (more.length < len.toNat + 3 → exec (.requestByteReceived p b err) s =
            .next (s.setPort p { s.port p with receiver := .inFrame (got ++ [b]) }))
          ∧ ∀ kind tag body c1, more = kind :: tag :: (body ++ [c1]) → body.length = len.toNat →
              (byte2 (crc16 (len :: kind :: tag :: body)).toNat ≠ [c1, b] →
                exec (.requestByteReceived p b err) s = .next (s.setPort p
                  { s.port p with receiver := .hunting, discards := min ((s.port p).discards + 1) 255 }))
              ∧ (byte2 (crc16 (len :: kind :: tag :: body)).toNat = [c1, b] →
                exec (.requestByteReceived p b err) s =
                  .next ((s.setPort p { s.port p with receiver := .hunting }).frameCompletes p ⟨kind, tag, body⟩))

/-- The bytes of a request frame with a correct check (10.6, R162), received one after another by a hunting receiver,
come to the same state as the request command of that frame. That a request command is one complete frame, which
leaves the receiver as it is, is the model's (log entry 2). -/
def Obligations.WireFrameIsTheRequest : Prop :=
  ∀ (k : Kind) (p : Port) (tag : Byte) (body : List Byte) (s : State), s.mainPower = true → body.length ≤ 240 →
    (s.port p).receiver = .hunting →
    ∃ t, exec (requestOf k p tag body) s = .next t
      ∧ s.runAll ((Frame.wire ⟨k.byte, tag, body⟩).map (fun b => .requestByteReceived p b false)) = some t

/-! ## The laws every step keeps -/

/-- Every step keeps the attention lines following their sets (R161). Without main power the law holds because the sets
that are lost are left empty, which is the model's choice (log entry 4). -/
def Obligations.StepKeepsAttentionLaw : Prop :=
  ∀ s t : State, s.AttentionLaw → step s = .next t → t.AttentionLaw

/-- Every step keeps the pending-line sets within the routes' notify sets (R158), and the changed sets within the
records in use (R11, R159). -/
def Obligations.StepKeepsPendingLaw : Prop :=
  ∀ s t : State, s.PendingLaw → step s = .next t → t.PendingLaw

/-- Every step keeps the supply temperatures held in agreement with the converter's slot 0 (R88, R104). -/
def Obligations.StepKeepsSupplyLaw : Prop :=
  ∀ s t : State, s.SupplyLaw → step s = .next t → t.SupplyLaw

/-- Every step keeps the retained numbers in their ranges and C the copy of setting 1 (R28, R119, R172, R174, R75), and
the counters of the instruments, the lines, the accounts and the ports in theirs (R85, R101, R107, R108, R147, R166). -/
def Obligations.StepKeepsRangeLaw : Prop :=
  ∀ s t : State, s.RangeLaw → step s = .next t → t.RangeLaw

/-- Every step keeps a stopped bay's valve at 0 with its sweep at the park value, and a running sweep at its position
(R111, R114). -/
def Obligations.StepKeepsOutputsLaw : Prop :=
  ∀ s t : State, s.OutputsLaw → step s = .next t → t.OutputsLaw

/-- Every step keeps the law of the yard table: tankers, records, free list and bindings (R1, R2, R3, R12). A token's
characters are ASCII codes (log entry 5). -/
def Obligations.StepKeepsYardTableLaw : Prop :=
  ∀ s t : State, s.YardTableLaw → step s = .next t → t.YardTableLaw

/-- Every step keeps the law of the compartment records (R4, R5, R23, R118). -/
def Obligations.StepKeepsRecordLaw : Prop :=
  ∀ s t : State, s.RangeLaw → s.RecordLaw → step s = .next t → t.RecordLaw

/-- Every step keeps the law of the wash units (R42, R43): whose they are, and in which state each of their timers runs;
and the endpoint counter equal to the endpoint count it writes (R42, R64). That no meter constant stands while no
interval is under way is the model's (log entry 14). -/
def Obligations.StepKeepsWashLaw : Prop := ∀ s t : State, s.Sound → step s = .next t → t.WashLaw

/-- Every step keeps the law of the arbiter: G, the queue, the sweeps, and the BLOCK-GRANTS line set (R67, R68, R78,
R111). The grant request on its way is the model's own (log entry 6). -/
def Obligations.StepKeepsLoopLaw : Prop := ∀ s t : State, s.Sound → step s = .next t → t.LoopLaw

/-- Every step keeps the law of the rack fill unit (R132), and OVERFILL out of every hold set but the rack's (R151). -/
def Obligations.StepKeepsFillLaw : Prop := ∀ s t : State, s.Sound → step s = .next t → t.FillLaw

/-- A reference handed over joins the changed set of port 6 and of the port of the position its tanker is bound to,
and no other; pending lines are as they were, and each attention line follows (R157, R161). -/
def Obligations.NoticeHandOver : Prop :=
  ∀ (s : State) (r : RecordRef) (p : Port),
    (s.notify r).ret = s.ret
      ∧ (s.notify r) = { s with act := { s.act with notices := (s.notify r).act.notices } }
      ∧ ((s.notify r).notice p).pendingLines = (s.notice p).pendingLines
      ∧ ((p = .office ∨ ∃ pos ∈ s.ownerBinding r, pos.port = p) →
          ((s.notify r).notice p).changed = (s.notice p).changed.set r true
            ∧ ((s.notify r).notice p).attention = true)
      ∧ (¬ (p = .office ∨ ∃ pos ∈ s.ownerBinding r, pos.port = p) → (s.notify r).notice p = s.notice p)

/-! ## The yard table -/

/-- The checks of ADMIT in their order: FORMAT for a body that ends early or has bytes left over, RANGE, CLASS,
DUPLICATE, FULL (R9). The token's characters are ASCII codes (log entry 5). -/
def Obligations.AdmitChecksInOrder : Prop :=
  ∀ (tag : Byte) (token : List Byte) (sent : List (Byte × Byte × List Byte)) (extra : List Byte) (s : State),
    s.Ready .office → token.length = 8 → sent.length < 256 → (∀ x ∈ sent, x.2.2.length < 256) →
    (∀ n : Nat, n ≤ 240 → n < (admitBody token sent).length →
      exec (.admitTanker .office tag ((admitBody token sent).take n)) s
        = .next (s.replies .office .admitTanker tag .format []))
    ∧ ((admitBody token sent ++ extra).length ≤ 240 →
    (extra ≠ [] → exec (.admitTanker .office tag (admitBody token sent ++ extra)) s
        = .next (s.replies .office .admitTanker tag .format []))
    ∧ ((sent = [] ∨ 8 < sent.length
          ∨ (∃ x ∈ sent, 3 < x.2.2.length ∨ number [x.1, x.2.1] < 500 ∨ 30000 < number [x.1, x.2.1]
              ∨ ∃ k ∈ x.2.2, k.toNat = 0 ∨ 48 < k.toNat)
          ∨ ¬ ∃ t, TokenFits t ∧ token = t ++ List.replicate (8 - t.length) 32#8) →
        exec (.admitTanker .office tag (admitBody token sent)) s
          = .next (s.replies .office .admitTanker tag .range []))
    ∧ ∀ t : List Byte, TokenFits t → token = t ++ List.replicate (8 - t.length) 32#8 →
        1 ≤ sent.length → sent.length ≤ 8 →
        (∀ x ∈ sent, x.2.2.length ≤ 3 ∧ 500 ≤ number [x.1, x.2.1] ∧ number [x.1, x.2.1] ≤ 30000
          ∧ ∀ k ∈ x.2.2, 1 ≤ k.toNat ∧ k.toNat ≤ 48) →
        ((∃ x ∈ sent, ∃ k : ClassNo, BitVec.ofNat 8 (k.val + 1) ∈ x.2.2 ∧ s.ret.classes[k] = none) →
          exec (.admitTanker .office tag (admitBody token sent)) s
            = .next (s.replies .office .admitTanker tag .cargoClass []))
        ∧ ((∀ x ∈ sent, ∀ k : ClassNo, BitVec.ofNat 8 (k.val + 1) ∈ x.2.2 → s.ret.classes[k] ≠ none) →
          ((∃ i : Slot, ∃ u ∈ s.ret.tankers[i], u.token = t) →
            exec (.admitTanker .office tag (admitBody token sent)) s
              = .next (s.replies .office .admitTanker tag .duplicate []))
          ∧ ((∀ i : Slot, ∀ u ∈ s.ret.tankers[i], u.token ≠ t) →
            ((∀ i : Slot, s.ret.tankers[i] ≠ none) ∨ s.ret.freeList.length < sent.length) →
            exec (.admitTanker .office tag (admitBody token sent)) s
              = .next (s.replies .office .admitTanker tag .full []))))

/-- A taken ADMIT (R10): the lowest-numbered free slot takes the tanker, the first references of the free list become
its compartments in order, and each new record is DIRTY and handed to the notice store. The token's characters are
ASCII codes (log entry 5). -/
def Obligations.AdmitTaken : Prop :=
  ∀ (tag : Byte) (token : List Byte) (cs : List (Nat × List ClassNo)) (i : Slot) (s : State),
    s.Ready .office → TokenFits token → 1 ≤ cs.length → cs.length ≤ 8 →
    (∀ x ∈ cs, 500 ≤ x.1 ∧ x.1 ≤ 30000 ∧ x.2.length ≤ 3 ∧ ∀ k ∈ x.2, s.ret.classes[k] ≠ none) →
    (∀ j : Slot, ∀ u ∈ s.ret.tankers[j], u.token ≠ token) →
    s.ret.tankers[i] = none → (∀ j : Slot, j < i → s.ret.tankers[j] ≠ none) →
    cs.length ≤ s.ret.freeList.length →
    exec (.admitTanker .office tag (tokenBytes token ++ byte1 cs.length
        ++ cs.flatMap (fun x => byte2 x.1 ++ byte1 x.2.length ++ x.2.flatMap (fun k => byte1 (k.val + 1))))) s =
      .next ((((s.ret.freeList.take cs.length).zip cs).zipIdx.foldl
        (fun (t : State) x => t.changeRecord x.1.1
          ⟨x.2 + 1, x.1.2.1, .dirty, x.1.2.2, none, none, none, none, none, none, none, none⟩)
        { s with ret := { s.ret with
          tankers := s.ret.tankers.set i (some ⟨token, s.ret.clock, s.ret.freeList.take cs.length, none⟩)
          freeList := s.ret.freeList.drop cs.length } }).replies .office .admitTanker tag .ok (byte1 (i.val + 1)))

/-- DEPART (R11): its refusals in order, and the records freed, the free list lengthened at its tail, the references
taken out of every port's changed set and the slot freed. -/
def Obligations.DepartFreesTheTanker : Prop :=
  ∀ (tag slot : Byte) (s : State), s.Ready .office →
    ((slot.toNat = 0 ∨ 12 < slot.toNat ∨ ∃ i : Slot, slot.toNat = i.val + 1 ∧ s.ret.tankers[i] = none) →
      exec (.depart .office tag [slot]) s = .next (s.replies .office .depart tag .noTanker []))
    ∧ ∀ i : Slot, ∀ t ∈ s.ret.tankers[i], slot.toNat = i.val + 1 →
      (t.binding ≠ none → exec (.depart .office tag [slot]) s = .next (s.replies .office .depart tag .busy []))
      ∧ (t.binding = none → (∃ r ∈ t.compartments, ∃ c ∈ s.ret.pool[r],
            c.state = .queued ∨ c.state = .running ∨ c.state = .handover ∨ c.state = .held ∨ c.state = .filling) →
          exec (.depart .office tag [slot]) s = .next (s.replies .office .depart tag .state []))
      ∧ (t.binding = none → (∀ r ∈ t.compartments, ∀ c ∈ s.ret.pool[r],
            c.state = .dirty ∨ c.state = .washed ∨ c.state = .released ∨ c.state = .laden) →
          exec (.depart .office tag [slot]) s = .next
            ({ s with
              ret := { s.ret with
                pool := t.compartments.foldl (fun v (r : RecordRef) => v.set r none) s.ret.pool
                freeList := s.ret.freeList ++ t.compartments
                tankers := s.ret.tankers.set i none }
              act := { s.act with
                notices := s.act.notices.map (fun (n : Notice) => Notice.settled n.pendingLines
                  (t.compartments.foldl (fun (v : RefSet) (r : RecordRef) => v.set r false) n.changed)) } }.replies
              .office .depart tag .ok []))

/-- DOCK (R13) and UNDOCK (R14, R15): their answers in order, and both sides of the binding set or cleared. A token's
characters are ASCII codes (log entry 5). -/
def Obligations.DockAndUndock : Prop :=
  ∀ (pos : Position) (tag : Byte) (s : State), s.Ready pos.port → s.IsOpen →
    (∀ token : List Byte, token.length = 8 →
      (∀ i : Slot, ∀ t ∈ s.ret.tankers[i], token ≠ tokenBytes t.token) →
      exec (.dock pos.port tag token) s = .next (s.replies pos.port .dock tag .noTanker []))
    ∧ (∀ i : Slot, ∀ t ∈ s.ret.tankers[i], TokenFits t.token →
        (∀ j : Slot, ∀ u ∈ s.ret.tankers[j], u.token = t.token → j = i) →
        let report := byte1 (i.val + 1) ++ byte1 t.compartments.length ++ s.stateBytes t
        (s.binding pos = some i →
          exec (.dock pos.port tag (tokenBytes t.token)) s = .next (s.replies pos.port .dock tag .ok report))
        ∧ (s.binding pos ≠ some i → (t.binding ≠ none ∨ s.binding pos ≠ none) →
          exec (.dock pos.port tag (tokenBytes t.token)) s = .next (s.replies pos.port .dock tag .busy []))
        ∧ (s.binding pos = none → t.binding = none →
          ((s.hold pos).nonEmpty = true →
            exec (.dock pos.port tag (tokenBytes t.token)) s = .next (s.replies pos.port .dock tag .held []))
          ∧ ((s.hold pos).nonEmpty = false →
            exec (.dock pos.port tag (tokenBytes t.token)) s = .next
              ({ s with ret := { s.ret with
                  bindings := s.ret.bindings.set pos.index (some i)
                  tankers := s.ret.tankers.set i (some { t with binding := some pos }) } }.replies
                pos.port .dock tag .ok report))))
    ∧ (s.binding pos = none →
        exec (.undock pos.port tag []) s = .next (s.replies pos.port .undock tag .unbound []))
    ∧ ∀ i : Slot, ∀ t ∈ s.ret.tankers[i], s.binding pos = some i →
        let stays : CState → Prop := fun x =>
          if pos = .rack then x = .filling else x = .queued ∨ x = .running ∨ x = .handover ∨ x = .held
        ((∃ r ∈ t.compartments, ∃ c ∈ s.ret.pool[r], stays c.state) →
          exec (.undock pos.port tag []) s = .next (s.replies pos.port .undock tag .state []))
        ∧ ((∀ r ∈ t.compartments, ∀ c ∈ s.ret.pool[r], ¬ stays c.state) →
          exec (.undock pos.port tag []) s = .next
            ({ s with ret := { s.ret with
                bindings := s.ret.bindings.set pos.index none
                tankers := s.ret.tankers.set i (some { t with binding := none }) } }.replies
              pos.port .undock tag .ok []))

/-- READ-TANKER (R17) and READ-COMPARTMENT (R18) report the table as it stands, in RECOVERY as in OPEN, and change
nothing: the tanker with a line for each compartment, and the 113 bytes of a record field by field as 10.6 lays them
out, for a record whose lists are no longer than its layout holds (the law of the records says so of every one). A
token's characters are ASCII codes (log entry 5). -/
def Obligations.ReadingTheTable : Prop :=
  ∀ (tag : Byte) (s : State),
    let report : Slot → Tanker → List Byte := fun i t =>
      byte1 (i.val + 1) ++ tokenBytes t.token ++ byte4 t.arrival ++ byte1 t.compartments.length
        ++ byte1 (match t.binding with | none => 0 | some (.bay b) => b.val + 1 | some .rack => 5)
        ++ t.compartments.flatMap (fun r => match s.ret.pool[r] with
          | none => []
          | some c => byte1 r.val ++ byte1 c.state.code ++ byte1 (match c.note with | none => 0 | some x => x.code))
    let listed : Tanker → Prop := fun t => ∀ r ∈ t.compartments, s.ret.pool[r] ≠ none
    let reports : Named → Port → List Byte → Prop := fun x p request => x.record.ListsFit → ∃ body : List Byte,
      exec (.readCompartment p tag request) s = .next (s.replies p .readCompartment tag .ok body)
        ∧ body.length = 113 ∧ ∀ f ∈ x.fields, (body.drop f.offset).take f.bytes = f.sent
    (s.Ready .office →
      (∀ slot : Byte, (slot.toNat = 0 ∨ 12 < slot.toNat
            ∨ ∃ i : Slot, slot.toNat = i.val + 1 ∧ s.ret.tankers[i] = none) →
          exec (.readTanker .office tag [slot]) s = .next (s.replies .office .readTanker tag .noTanker []))
      ∧ (∀ (slot : Byte) (i : Slot), ∀ t ∈ s.ret.tankers[i], slot.toNat = i.val + 1 → listed t →
          exec (.readTanker .office tag [slot]) s = .next (s.replies .office .readTanker tag .ok (report i t)))
      ∧ (∀ (slot n : Byte) (x : Named), s.nameAtSlot slot.toNat n.toNat = .ok x → reports x .office [slot, n]))
    ∧ ∀ pos : Position, s.Ready pos.port →
      (s.binding pos = none →
        exec (.readTanker pos.port tag []) s = .next (s.replies pos.port .readTanker tag .unbound []))
      ∧ (∀ i : Slot, ∀ t ∈ s.ret.tankers[i], s.binding pos = some i → listed t →
        exec (.readTanker pos.port tag []) s = .next (s.replies pos.port .readTanker tag .ok (report i t)))
      ∧ (∀ (n : Byte) (x : Named), s.nameBound pos n.toNat = .ok x → reports x pos.port [n])

/-! ## The cargo rules -/

/-- WRITE-CLASS (R22): FORMAT, RANGE, BUSY for an undefinition of a class in use, and the entry defined or
undefined. -/
def Obligations.WriteClassWritesTheEntry : Prop :=
  ∀ (tag c g grp prog : Byte) (s : State), s.Ready .office →
    (∀ body : List Byte, body.length ≠ 4 → body.length ≤ 240 →
      exec (.writeClass .office tag body) s = .next (s.replies .office .writeClass tag .format []))
    ∧ ((c.toNat = 0 ∨ 48 < c.toNat ∨ 3 < g.toNat
        ∨ (g.toNat ≠ 0 ∧ (11 < grp.toNat ∨ prog.toNat = 0 ∨ 16 < prog.toNat))) →
      exec (.writeClass .office tag [c, g, grp, prog]) s = .next (s.replies .office .writeClass tag .range []))
    ∧ ∀ k : ClassNo, c.toNat = k.val + 1 →
      (g.toNat = 0 → s.ClassInUse k →
        exec (.writeClass .office tag [c, g, grp, prog]) s = .next (s.replies .office .writeClass tag .busy []))
      ∧ (g.toNat = 0 → ¬ s.ClassInUse k →
        exec (.writeClass .office tag [c, g, grp, prog]) s = .next
          ({ s with ret := { s.ret with classes := s.ret.classes.set k none } }.replies
            .office .writeClass tag .ok []))
      ∧ ∀ (grade : Grade) (group : Group) (program : ProgramNo),
        g.toNat = (match grade with | .food => 1 | .feed => 2 | .technical => 3) → grp.toNat = group.val →
        prog.toNat = program.val + 1 →
        exec (.writeClass .office tag [c, g, grp, prog]) s = .next
          ({ s with ret := { s.ret with classes := s.ret.classes.set k (some ⟨grade, group, program⟩) } }.replies
            .office .writeClass tag .ok [])

/-- WRITE-FOLLOW replaces a row (R26); READ-FOLLOW reports one (R27); READ-CLASS reports an entry with the number of
records that name the class (R24). -/
def Obligations.FollowRowsAndClassReads : Prop :=
  ∀ (tag f : Byte) (s : State), s.Ready .office →
    (∀ body : List Byte, body.length ≠ 13 → body.length ≤ 240 →
      exec (.writeFollow .office tag body) s = .next (s.replies .office .writeFollow tag .format []))
    ∧ (∀ cells : List Byte, cells.length = 12 → (11 < f.toNat ∨ ∃ b ∈ cells, 3 < b.toNat) →
      exec (.writeFollow .office tag (f :: cells)) s = .next (s.replies .office .writeFollow tag .range []))
    ∧ (∀ (g : Group) (row : Vector Cell 12), f.toNat = g.val →
      exec (.writeFollow .office tag (f :: row.toList.map (fun x =>
          match x with | .noWash => 0#8 | .wash => 1#8 | .deep => 2#8 | .barred => 3#8))) s = .next
        ({ s with ret := { s.ret with follow := s.ret.follow.set g row } }.replies .office .writeFollow tag .ok []))
    ∧ (11 < f.toNat →
      exec (.readFollow .office tag [f]) s = .next (s.replies .office .readFollow tag .range []))
    ∧ (∀ g : Group, f.toNat = g.val →
      exec (.readFollow .office tag [f]) s = .next (s.replies .office .readFollow tag .ok
        ((s.ret.follow[g]).toList.map (fun x =>
          match x with | .noWash => 0#8 | .wash => 1#8 | .deep => 2#8 | .barred => 3#8))))
    ∧ (f.toNat = 0 ∨ 48 < f.toNat →
      exec (.readClass .office tag [f]) s = .next (s.replies .office .readClass tag .range []))
    ∧ (∀ k : ClassNo, f.toNat = k.val + 1 →
      exec (.readClass .office tag [f]) s = .next (s.replies .office .readClass tag .ok
        ((match s.ret.classes[k] with
          | none => [0#8, 0#8, 0#8]
          | some d => byte1 d.grade.code ++ byte1 d.group.val ++ byte1 (d.program.val + 1))
        ++ byte1 ((List.finRange 64).countP (fun r => match s.ret.pool[r] with
          | none => false
          | some c => decide (k ∈ c.history ∨ c.intent = some k ∨ c.release.map (·.releasedFor) = some k))))))

/-- WRITE-PROGRAM (R29, R30): its refusals in order, and the phase list replaced whole, a phase sent with the endpoint
flag at 0 having no endpoint whatever its L and N bytes are; READ-PROGRAM (R31) sends the
list back in the same form with the wash count. -/
def Obligations.ProgramsWrittenAndRead : Prop :=
  ∀ (tag prog n : Byte) (s : State), s.Ready .office →
    (∀ rest : List Byte, rest.length ≤ 238 →
      (rest.length ≠ 18 * n.toNat →
        exec (.writeProgram .office tag (prog :: n :: rest)) s
          = .next (s.replies .office .writeProgram tag .format []))
      ∧ (rest.length = 18 * n.toNat → (prog.toNat = 0 ∨ 16 < prog.toNat ∨ 8 < n.toNat
            ∨ ∃ i < n.toNat, BadPhase ((rest.drop (18 * i)).take 18)) →
        exec (.writeProgram .office tag (prog :: n :: rest)) s
          = .next (s.replies .office .writeProgram tag .range [])))
    ∧ (∀ (k : ProgramNo) (sent : List (Phase × Byte × Byte × Byte)), prog.toNat = k.val + 1 → sent.length ≤ 8 →
        n.toNat = sent.length → (∀ x ∈ sent, x.1.InRange) →
        let body := prog :: n :: sent.flatMap (fun x => x.1.sentBytes x.2.1 x.2.2.1 x.2.2.2)
        ((∃ r : RecordRef, ∃ c ∈ s.ret.pool[r], c.Washing k) →
          exec (.writeProgram .office tag body) s = .next (s.replies .office .writeProgram tag .busy []))
        ∧ ((∀ r : RecordRef, ∀ c ∈ s.ret.pool[r], ¬ c.Washing k) →
          exec (.writeProgram .office tag body) s = .next
            ({ s with ret := { s.ret with programs := s.ret.programs.set k (sent.map Prod.fst) } }.replies
              .office .writeProgram tag .ok [])))
    ∧ (prog.toNat = 0 ∨ 16 < prog.toNat →
        exec (.readProgram .office tag [prog]) s = .next (s.replies .office .readProgram tag .range []))
    ∧ (∀ k : ProgramNo, prog.toNat = k.val + 1 →
        exec (.readProgram .office tag [prog]) s = .next (s.replies .office .readProgram tag .ok
          (byte1 (s.ret.programs[k]).length
            ++ byte1 ((List.finRange 64).countP (fun r => match s.ret.pool[r] with
              | none => false
              | some c => decide (c.Washing k)))
            ++ (s.ret.programs[k]).flatMap (fun ph => ph.sentBytes 0#8 0#8 0#8))))

/-- The assessment (R34, R35, R36): the first BARRED cell ends it; otherwise the strongest cell over the whole
history, raised for a FOOD or FEED intent after a TECHNICAL class, with the newest history class's program; an empty
history asks for WASH under the intent's program. A class of the history that is undefined, which R23 keeps from
occurring, is read as the model chooses: cell NONE, no grade, an empty program (log entry 13). -/
def Obligations.AssessmentOfAnIntent : Prop :=
  ∀ (r : Retained) (history : List ClassNo) (intent : ClassNo),
    (r.classes[intent] = none → r.assess history intent = .undefinedClass)
    ∧ ∀ d ∈ r.classes[intent],
      let settle : Demand → Option ProgramNo → Assessment := fun x program =>
        if x = .noWash then .demands .noWash none
        else match program with
          | none => .emptyProgram
          | some k => if r.programs[k] = [] then .emptyProgram else .demands x (some k)
      (history = [] → r.assess history intent = settle .wash (some d.program))
      ∧ (∀ pre k post, history = pre ++ k :: post → r.cellFor d.group k = .barred →
          (∀ j ∈ pre, r.cellFor d.group j ≠ .barred) → r.assess history intent = .barred k)
      ∧ (∀ newest older, history = newest :: older → (∀ k ∈ history, r.cellFor d.group k ≠ .barred) →
          let technical : Bool := history.any (fun k => (r.classes[k]).map (·.grade) == some .technical)
          let base : Demand :=
            if ∃ k ∈ history, r.cellFor d.group k = .deep then .deep
            else if ∃ k ∈ history, r.cellFor d.group k = .wash then .wash else .noWash
          let raised : Demand :=
            if d.grade = .food ∧ technical = true then .deep
            else if d.grade = .feed ∧ technical = true ∧ base = .noWash then .wash else base
          r.assess history intent = settle raised ((r.classes[newest]).map (·.program)))

/-- SET-INTENT (R37 to R40): its refusals in order, and what a taken one does to a DIRTY, a WASHED and a RELEASED
compartment; a change of state is handed to the notice store. -/
def Obligations.SetIntentActsByState : Prop :=
  ∀ (tag slot n k : Byte) (s : State) (x : Named), s.Ready .office → s.IsOpen →
    s.nameAtSlot slot.toNat n.toNat = .ok x →
    let answers : AnswerCode → List Byte → Prop := fun code body =>
      exec (.setIntent .office tag [slot, n, k]) s = .next (s.replies .office .setIntent tag code body)
    (k.toNat = 0 ∨ 48 < k.toNat → answers .range [])
    ∧ ∀ intent : ClassNo, k.toNat = intent.val + 1 →
      (¬ (x.record.state = .dirty ∨ x.record.state = .washed ∨ x.record.state = .released) → answers .state [])
      ∧ (x.record.state = .dirty ∨ x.record.state = .washed ∨ x.record.state = .released →
        (s.ret.assess x.record.history intent = .undefinedClass → answers .cargoClass [])
        ∧ (∀ j, s.ret.assess x.record.history intent = .barred j → answers .barred (byte1 (j.val + 1)))
        ∧ (s.ret.assess x.record.history intent = .emptyProgram → answers .cargoClass [])
        ∧ ∀ d program, s.ret.assess x.record.history intent = .demands d program →
          let c : Compartment :=
            { x.record with note := none, intent := some intent, demand := some d, program := program }
          let taken : State → CState → Prop := fun t state =>
            exec (.setIntent .office tag [slot, n, k]) s = .next (t.replies .office .setIntent tag .ok
              (byte1 state.code ++ byte1 d.code
                ++ byte1 (match program with | none => 0 | some j => j.val + 1)))
          (x.record.state = .dirty → d ≠ .noWash → taken (s.setRecord x.ref (some c)) .dirty)
          ∧ (x.record.state = .dirty → d = .noWash →
              taken (s.changeRecord x.ref { c with state := .washed, summary := some ⟨.noWash, [], none⟩ }) .washed)
          ∧ ∀ w ∈ x.record.summary,
            (x.record.state = .washed → d.code ≤ w.kind.code → taken (s.setRecord x.ref (some c)) .washed)
            ∧ (x.record.state = .washed → w.kind.code < d.code →
                taken (s.changeRecord x.ref { c with state := .dirty, summary := none }) .dirty)
            ∧ (x.record.state = .released → d.code ≤ w.kind.code →
                taken (s.changeRecord x.ref { c with state := .washed, release := none }) .washed)
            ∧ (x.record.state = .released → w.kind.code < d.code →
                taken (s.changeRecord x.ref { c with state := .dirty, release := none, summary := none }) .dirty))

/-! ## The wash cycle -/

/-- START-WASH (R45, R46, R69): its refusals in order, and the compartment QUEUED at phase 1 with its request at the
tail of the grant queue, the bay's wash unit active and its timers stopped. The grant request a decision sends is the
model's own (log entry 6). -/
def Obligations.StartWashQueuesPhaseOne : Prop :=
  ∀ (b : Bay) (tag n : Byte) (s : State) (x : Named), s.Ready (.bay b) → s.IsOpen →
    s.nameBound (.bay b) n.toNat = .ok x →
    let answers : AnswerCode → Prop := fun code =>
      exec (.startWash (.bay b) tag [n]) s = .next (s.replies (.bay b) .startWash tag code [])
    (¬ (x.record.state = .dirty ∧ (x.record.demand = some .wash ∨ x.record.demand = some .deep)) → answers .state)
    ∧ (x.record.state = .dirty → (x.record.demand = some .wash ∨ x.record.demand = some .deep) →
      ((s.act.units[b]).active ≠ none → answers .busy)
      ∧ ((s.act.units[b]).active = none → (s.hold (.bay b)).nonEmpty = true → answers .held)
      ∧ ((s.act.units[b]).active = none → (s.hold (.bay b)).nonEmpty = false → ∀ k ∈ x.record.program,
        (s.ret.programs[k] = [] → answers .cargoClass)
        ∧ ∀ ph later, s.ret.programs[k] = ph :: later →
          exec (.startWash (.bay b) tag [n]) s = .next
            ((s.queuedWith b x.ref x.record
              ⟨1, 0, 0, 0, 0, 0, [], ⟨false, false, false, false⟩, none, s.ret.clock, none⟩ ph none).replies
              (.bay b) .startWash tag .ok
              (byte1 (ph :: later).length ++ byte1 1 ++ byte1 ph.kind.code ++ byte1 ph.basis.code
                ++ byte1 ph.shares))))

/-- PHASE-GO (R52, R53): STATE unless the compartment is HANDOVER; otherwise the next phase is entered from zero and
queued, the handover timer stopped and the re-entry timer started. The grant request a decision sends is the model's
own (log entry 6). -/
def Obligations.PhaseGoQueuesTheNextPhase : Prop :=
  ∀ (b : Bay) (tag n : Byte) (s : State) (x : Named), s.Ready (.bay b) → s.IsOpen →
    s.nameBound (.bay b) n.toNat = .ok x →
    (x.record.state ≠ .handover →
      exec (.phaseGo (.bay b) tag [n]) s = .next (s.replies (.bay b) .phaseGo tag .state []))
    ∧ (x.record.state = .handover → s.OnlyUnit b x.ref → ∀ p ∈ x.record.progress, 1 ≤ p.phaseIndex →
      ∀ k ∈ x.record.program, ∀ ph, (s.ret.programs[k])[p.phaseIndex]? = some ph →
        exec (.phaseGo (.bay b) tag [n]) s = .next
          ((s.queuedWith b x.ref x.record
            { p with
              phaseIndex := p.phaseIndex + 1
              dose := 0
              remainder := 0
              runningTime := 0
              endpointCount := 0
              marks := ⟨false, false, false, false⟩ } ph (some s.ret.reEntryLimit)).replies
            (.bay b) .phaseGo tag .ok
            (byte1 (p.phaseIndex + 1) ++ byte1 ph.kind.code ++ byte1 ph.basis.code ++ byte1 ph.shares)))

/-- ABORT-WASH (R56) and CANCEL-WASH (R57): STATE outside the wash states, and in each of them the wash ended in DIRTY
with its note (R55). The account items the end of a wash leaves without an interval are the model's (log entry 14).
The grant request a decision sends is the model's own (log entry 6). -/
def Obligations.AbortAndCancelEndTheWash : Prop :=
  ∀ (b : Bay) (tag : Byte) (s : State) (x : Named), s.IsOpen →
    (∀ n : Byte, s.Ready (.bay b) → s.nameBound (.bay b) n.toNat = .ok x →
      (x.record.state.isWash = false →
        exec (.abortWash (.bay b) tag [n]) s = .next (s.replies (.bay b) .abortWash tag .state []))
      ∧ (x.record.state.isWash = true → s.OnlyUnit b x.ref →
        exec (.abortWash (.bay b) tag [n]) s = .next
          ((s.endedInDirty b x.ref x.record .aborted).replies (.bay b) .abortWash tag .ok [])))
    ∧ ∀ slot n : Byte, s.Ready .office → s.nameAtSlot slot.toNat n.toNat = .ok x →
      (x.record.state.isWash = false →
        exec (.cancelWash .office tag [slot, n]) s = .next (s.replies .office .cancelWash tag .state []))
      ∧ (x.record.state.isWash = true → s.OnlyUnit b x.ref →
        exec (.cancelWash .office tag [slot, n]) s = .next
          ((s.endedInDirty b x.ref x.record .cancelled).replies .office .cancelWash tag .ok
            (byte1 x.record.state.code)))

/-- The phase timer (R42, R54): the running time advances a second up to the max duration, where the expiry ends the
wash with PROBE-FAULT if the phase carries PROBE and PHASE-TIMEOUT otherwise; with no RUNNING compartment, or before
the max duration is reached, the event does nothing (log entry 7). The account items the end of a wash leaves are the
model's (log entry 14). The grant request a decision sends is the model's own (log entry 6). -/
def Obligations.PhaseTimerTicksAndExpires : Prop :=
  ∀ (b : Bay) (s : State), s.mainPower = true →
    (s.NotRunning b → exec (.phaseTimerTick b) s = .next s ∧ exec (.phaseTimerExpiry b) s = .next s)
    ∧ ∀ r c p ph, s.Runs b r c p ph → (s.act.units[b]).phaseTimer = true →
      (p.runningTime < ph.maxDuration →
        exec (.phaseTimerTick b) s
            = .next (s.setRecord r (some { c with progress := some { p with runningTime := p.runningTime + 1 } }))
          ∧ exec (.phaseTimerExpiry b) s = .next s)
      ∧ (ph.maxDuration ≤ p.runningTime →
        exec (.phaseTimerTick b) s = .next s
          ∧ exec (.phaseTimerExpiry b) s
            = .next (s.endedInDirty b r c (if p.marks.probe = true then .probeFault else .phaseTimeout)))

/-- The handover, re-entry and hold timers (R44, R53, R59, R61): a running timer's expiry ends the wash in DIRTY with
its note if the compartment is in the state the timer names; otherwise the timer stops and nothing else changes; a
stopped timer does not expire. The expiry event stands for the end of the running length (log entry 7). The account
items the end of a wash leaves are the model's (log entry 14). The grant request a decision sends is the model's own
(log entry 6). -/
def Obligations.WashTimersExpire : Prop :=
  ∀ (b : Bay) (s : State), s.mainPower = true →
    let u := s.act.units[b]
    let stopped : WashUnit → Host.Outcome State Fault Refusal := fun v =>
      .next { s with act := { s.act with units := s.act.units.set b v } }
    (u.handoverTimer = none → exec (.handoverTimerExpiry b) s = .next s)
    ∧ (u.reEntryTimer = none → exec (.reEntryTimerExpiry b) s = .next s)
    ∧ (u.holdTimer = none → exec (.holdTimerExpiry b) s = .next s)
    ∧ ∀ r c, u.active = some r → s.ret.pool[r] = some c →
      (u.handoverTimer ≠ none → exec (.handoverTimerExpiry b) s =
        if c.state = .handover then .next (s.endedInDirty b r c .handoverTimeout)
        else stopped { u with handoverTimer := none })
      ∧ (u.reEntryTimer ≠ none → exec (.reEntryTimerExpiry b) s =
        if c.state = .queued then .next (s.endedInDirty b r c .reEntryTimeout)
        else stopped { u with reEntryTimer := none })
      ∧ (u.holdTimer ≠ none → exec (.holdTimerExpiry b) s =
        if c.state = .held then .next (s.endedInDirty b r c .holdExpired)
        else stopped { u with holdTimer := none })

/-- A wash unit's hold (R60) and resume (R62): each is taken only if the record's state and the bay's hold set are
those it expects, and is otherwise without effect. The account items a hold leaves without an interval are the model's
(log entry 14). The grant request a decision sends is the model's own (log entry 6). -/
def Obligations.HoldAndResume : Prop :=
  ∀ (b : Bay) (s : State), s.mainPower = true →
    let u := s.act.units[b]
    (u.active = none → exec (.washHold b) s = .next s ∧ exec (.washResume b) s = .next s)
    ∧ ∀ r c p, u.active = some r → s.ret.pool[r] = some c → c.progress = some p →
      ((s.hold (.bay b)).nonEmpty = true → c.state = .queued ∨ c.state = .running ∨ c.state = .handover →
        exec (.washHold b) s = .next
          ({ s with act := { s.act with
            arbiter := s.act.arbiter.left r c
            outputs := s.outputsLeft b c
            units := s.act.units.set b
              ⟨some r, false, false, none, none, some s.ret.holdLimit, 0, none, u.supply, none, 0⟩ } }.changeRecord r
            { c with
              state := .held
              progress := some
                { p with sharesHeld := 0, heldFrom := some c.state, heldSince := some s.ret.clock } }))
      ∧ ((s.hold (.bay b)).nonEmpty = false ∨ ¬ (c.state = .queued ∨ c.state = .running ∨ c.state = .handover) →
        exec (.washHold b) s = .next s)
      ∧ ((s.hold (.bay b)).nonEmpty = true ∨ c.state ≠ .held → exec (.washResume b) s = .next s)
      ∧ ((s.hold (.bay b)).nonEmpty = false → c.state = .held → p.heldFrom = some .handover →
        exec (.washResume b) s = .next
          ({ s with act := { s.act with
            units := s.act.units.set b
              { u with holdTimer := none, handoverTimer := some s.ret.handoverLimit } } }.changeRecord r
            { c with state := .handover, progress := some { p with heldFrom := none, heldSince := none } }))
      ∧ ((s.hold (.bay b)).nonEmpty = false → c.state = .held →
          p.heldFrom = some .queued ∨ p.heldFrom = some .running → 1 ≤ p.phaseIndex →
          ∀ k ∈ c.program, ∀ ph, (s.ret.programs[k])[p.phaseIndex - 1]? = some ph →
        exec (.washResume b) s = .next
          (s.queuedWith b r c p ph (if 2 ≤ p.phaseIndex then some s.ret.reEntryLimit else none)))

/-! ## The arbiter -/

/-- The scan (R71, R72), the decision an event begins, and the grant (R47, R73, R84, R112). An event that calls for a
decision while none is in progress sends the grant its scan picks; one that comes while a decision is in progress
leaves it to that decision. A GRANT takes the grant sent, whatever block cause has been set since (R80), if its entry
still stands and fits the room (R67), and otherwise the one a fresh scan picks; a grant expects QUEUED. The grant
request on its way is the model's own (log entry 6). -/
def Obligations.GrantOfTheScan : Prop :=
  (∀ (x : Arbiter) (e : QueueEntry) (backfill : Bool), x.pick = some (e, backfill) ↔ x.ScanPicks e backfill)
  ∧ (∀ x before : Arbiter,
      (before.sent = none → (∀ e backfill, ¬ before.ScanPicks e backfill) →
        (∀ e backfill, x.ScanPicks e backfill → x.decided before = { x with sent := some e.ref })
        ∧ ((∀ e backfill, ¬ x.ScanPicks e backfill) → x.decided before = { x with sent := none }))
      ∧ (before.sent ≠ none ∨ (∃ e backfill, before.ScanPicks e backfill) → x.decided before = x))
  ∧ ∀ s : State, s.mainPower = true →
    let a := s.act.arbiter
    let passed : List QueueEntry := match a.queue with
      | [] => []
      | head :: later => { head with passCount := head.passCount + 1 } :: later
    let dropped : State := { s with act := { s.act with arbiter := { a with sent := none } } }
    let reaches : QueueEntry → Bool → Prop := fun e backfill =>
      ((∀ c ∈ s.ret.pool[e.ref], c.state ≠ .queued) → exec .grant s = .next dropped)
      ∧ ∀ c p k ph, s.ret.pool[e.ref] = some c → c.state = .queued → c.progress = some p → c.program = some k →
        1 ≤ p.phaseIndex → (s.ret.programs[k])[p.phaseIndex - 1]? = some ph →
        exec .grant s = .next
          ({ s with act := { s.act with
            arbiter := { a with
              granted := a.granted + e.shares
              queue := (if backfill = true then passed else a.queue).filter (fun x => x.ref ≠ e.ref)
              sent := none }
            units := s.act.units.set e.bay { s.act.units[e.bay] with
              phaseTimer := true
              intervalTimer := true
              reEntryTimer := none
              intervalCount := 0
              intervalK := some (s.ret.meterConstant (.bay e.bay))
              lastSample := none
              endpointCounter := 0 }
            outputs := s.act.outputs.set e.bay
              ⟨min (e.shares * s.ret.shareOpening e.bay) 4095, ph.sweepLow, some ⟨ph.sweepLow, .up⟩⟩ } }.changeRecord
            e.ref { c with state := .running, progress := some { p with sharesHeld := e.shares, endpointCount := 0 } })
    (a.sent = none →
      (∀ e backfill, a.ScanPicks e backfill → reaches e backfill)
      ∧ ((∀ e backfill, ¬ a.ScanPicks e backfill) → exec .grant s = .next s))
    ∧ ∀ r ∈ a.sent,
      ((∀ x ∈ a.queue, x.ref ≠ r) → exec .grant s = .next dropped)
      ∧ ∀ pre e post, a.queue = pre ++ e :: post → e.ref = r → (∀ x ∈ pre ++ post, x.ref ≠ r) →
        (e.shares ≤ a.capacity - a.granted → reaches e (decide (pre ≠ [])))
        ∧ (a.capacity - a.granted < e.shares → exec .grant s = .next dropped)

/-! ## Dose accounting and the endpoint -/

/-- An interval close (R86 to R94): the pulse figure, the increment by the phase's basis with the carried remainder,
the marks, the accrual held at 16,777,215, and the completion test in the same step; with no RUNNING compartment the
close is not taken. The account items a completed phase leaves without an interval are the model's (log entry 14). The
grant request a decision sends is the model's own (log entry 6). -/
def Obligations.IntervalCloseAccrues : Prop :=
  ∀ (b : Bay) (s : State), s.mainPower = true →
    (s.NotRunning b → exec (.accountingIntervalClose b) s = .next s)
    ∧ ∀ r c p ph d K, s.Runs b r c p ph → c.demand = some d → (s.act.units[b]).intervalTimer = true →
      (s.act.units[b]).intervalK = some K →
      let u := s.act.units[b]
      let V := min u.intervalCount 255 * K
      let closed : Nat → Nat → Bool → Prop := fun D R stale =>
        let p' : Progress := { p with
          dose := min (p.dose + D) 16777215
          remainder := R
          marks := { p.marks with
            overrange := p.marks.overrange || decide (255 < u.intervalCount)
            stale := p.marks.stale || stale } }
        (¬ CompletionTest d ph p' →
          exec (.accountingIntervalClose b) s = .next
            ({ s with act := { s.act with
              units := s.act.units.set b
                { u with intervalCount := 0, intervalK := some (s.ret.meterConstant (.bay b)) } } }.setRecord r
              (some { c with progress := some p' })))
        ∧ (CompletionTest d ph p' →
          exec (.accountingIntervalClose b) s = .next (s.phaseCompleted b r c p' ph d))
      (ph.basis = .volume → closed V p.remainder false)
      ∧ (ph.basis = .thermal → (∀ x ∈ u.supply, 2000 ≤ x.age) → closed 0 p.remainder true)
      ∧ (ph.basis = .thermal → ∀ x ∈ u.supply, x.age < 2000 →
          closed ((V * min (x.value - ph.floor) 80 + p.remainder) / 20)
            ((V * min (x.value - ph.floor) 80 + p.remainder) % 20) false)

/-- A conductivity sample (R95, R96, R97): applied to the endpoint counter of a RUNNING phase with an endpoint, which
writes the endpoint count (R42, R64), with the completion test in the same step, and not applied otherwise; a faulty
sample restarts the count and sets PROBE. The converter's round and the account items a completed phase leaves are the
model's (log entries 12, 14). The grant request a decision sends is the model's own (log entry 6). -/
def Obligations.ConductivitySampleApplied : Prop :=
  ∀ (b : Bay) (ch : Probe) (code : Code) (s : State), s.mainPower = true → ch.val = b.val + 1 →
    s.act.scanNext = ch →
    let good : Prop := code.val ≠ 0 ∧ code.val ≠ 1023
    let slot := s.act.slots[ch]
    let s' : State := { s with act := { s.act with
      scanNext := ch + 1
      slots := s.act.slots.set ch
        (if good then ⟨some code, false, some ((code.val - 1) * 2), 0⟩
          else ⟨some code, true, slot.lastGood, slot.age⟩) } }
    (s.NotRunning b → exec (.scanConversion ch code) s = .next s')
    ∧ ∀ r c p ph, s.Runs b r c p ph →
      (ph.endpoint = none → exec (.scanConversion ch code) s = .next s')
      ∧ ∀ d e, c.demand = some d → ph.endpoint = some e →
        let S := (code.val - 1) * 2
        let applied : Nat → Bool → Option Nat → Prop := fun n probe last =>
          let p' : Progress := { p with endpointCount := n, marks := { p.marks with probe := probe } }
          let t : State := { s' with act := { s'.act with
            units := s.act.units.set b { s.act.units[b] with lastSample := last, endpointCounter := n } } }
          (¬ CompletionTest d ph p' →
            exec (.scanConversion ch code) s = .next (t.setRecord r (some { c with progress := some p' })))
          ∧ (CompletionTest d ph p' → exec (.scanConversion ch code) s = .next (t.phaseCompleted b r c p' ph d))
        let count := (s.act.units[b]).endpointCounter
        (¬ good → applied 0 true (s.act.units[b]).lastSample)
        ∧ (good → S ≤ e.limit → applied (min (count + 1) e.qualifying) p.marks.probe (some S))
        ∧ (good → e.limit + s.ret.hysteresis < S → applied 0 p.marks.probe (some S))
        ∧ (good → e.limit < S → S ≤ e.limit + s.ret.hysteresis → applied count p.marks.probe (some S))

/-! ## Instruments and outputs -/

/-- Conversions of the temperature and pressure channels, the round's order, and the ages (R77, R88, R101 to R104): a
conversion of the channel the round has come to updates its slot and is delivered in the same step; a faulty one keeps
the last good value with its age. Another channel's conversion does not occur (log entry 12). The grant request a
decision sends is the model's own (log entry 6). -/
def Obligations.ConversionDelivered : Prop :=
  ∀ (ch : Probe) (code : Code) (s : State), s.mainPower = true →
    (s.act.scanNext ≠ ch → exec (.scanConversion ch code) s = .next s)
    ∧ (s.act.scanNext = ch →
      let good : Prop := code.val ≠ 0 ∧ code.val ≠ 1023
      let slot := s.act.slots[ch]
      let value : Nat := if ch = 0 then (code.val - 1) * 200 / 1021 else code.val - 1
      let taken : Vector WashUnit 4 → Bool → Prop := fun units low =>
        exec (.scanConversion ch code) s = .next { s with act := { s.act with
          scanNext := if ch = 0 then 1 else 0
          slots := s.act.slots.set ch (if good then ⟨some code, false, some value, 0⟩
            else ⟨some code, true, slot.lastGood, slot.age⟩)
          units := units
          arbiter := Arbiter.decided { s.act.arbiter with lowPressure := low } s.act.arbiter } }
      (ch = 0 → good →
        taken (s.act.units.map (fun u => { u with supply := some ⟨value, 0⟩ })) s.act.arbiter.lowPressure)
      ∧ (ch = 0 → ¬ good → taken s.act.units s.act.arbiter.lowPressure)
      ∧ (ch = 5 → good → value < s.ret.pressureMinimum → taken s.act.units true)
      ∧ (ch = 5 → good → s.ret.pressureMinimum + 20 ≤ value → taken s.act.units false)
      ∧ (ch = 5 → good → s.ret.pressureMinimum ≤ value → value < s.ret.pressureMinimum + 20 →
          taken s.act.units s.act.arbiter.lowPressure)
      ∧ (ch = 5 → ¬ good → taken s.act.units true))
    ∧ exec .ageMillisecond s = .next { s with act := { s.act with
        slots := s.act.slots.map (fun x => { x with age := min (x.age + 1) 65535 })
        units := s.act.units.map (fun u =>
          { u with supply := u.supply.map (fun x => { x with age := min (x.age + 1) 65535 }) }) } }

/-- A sample of a pulse input through its glitch filter (R107), and an accepted rising level at a bay: the
commissioning total counts, and the pulse joins the interval of a RUNNING compartment (R85, R108). -/
def Obligations.PulseSampleFilteredAndCounted : Prop :=
  ∀ (m : Position) (level : Level) (s : State), s.mainPower = true →
    let c := s.act.pulses[m.index]
    let kept : Filter → State := fun f =>
      { s with act := { s.act with pulses := s.act.pulses.set m.index { c with filter := f } } }
    (level = c.filter.accepted → exec (.pulseSample m level) s = .next (kept ⟨c.filter.accepted, 0⟩))
    ∧ (level ≠ c.filter.accepted → c.filter.run + 1 < s.ret.pulseFilter m →
        exec (.pulseSample m level) s = .next (kept ⟨c.filter.accepted, c.filter.run + 1⟩))
    ∧ (level ≠ c.filter.accepted → s.ret.pulseFilter m ≤ c.filter.run + 1 → level = .low →
        exec (.pulseSample m level) s = .next (kept ⟨.low, 0⟩))
    ∧ ∀ b : Bay, m = .bay b → level = .high → c.filter.accepted = .low →
        s.ret.pulseFilter m ≤ c.filter.run + 1 →
        let t : State := { s with act := { s.act with
          pulses := s.act.pulses.set m.index ⟨⟨.high, 0⟩, (c.total + 1) % 65536 ⟩ } }
        c.total ≤ 65535 →
        (s.NotRunning b → exec (.pulseSample m level) s = .next t)
        ∧ ∀ r x p ph, s.Runs b r x p ph →
          exec (.pulseSample m level) s = .next { t with act := { t.act with
            units := s.act.units.set b
              { s.act.units[b] with intervalCount := min ((s.act.units[b]).intervalCount + 1) 1000 } } }

/-- A sweep tick (R113): a step of 0 leaves the position; otherwise it moves by the step and turns round at its low
and its high; the valve is not touched. A stopped generator's timer does not tick (R114). -/
def Obligations.SweepTickMovesTheSweep : Prop :=
  ∀ (b : Bay) (s : State), s.mainPower = true →
    ((s.act.outputs[b]).generator = none → exec (.sweepTick b) s = .next s)
    ∧ ∀ w r c p ph, (s.act.outputs[b]).generator = some w → s.Runs b r c p ph →
      let moved : Nat → Direction → Prop := fun n d => exec (.sweepTick b) s = .next (s.sweepAt b n d)
      (ph.sweepStep = 0 → moved w.position w.direction)
      ∧ (ph.sweepStep ≠ 0 → w.direction = .up → w.position + ph.sweepStep < ph.sweepHigh →
          moved (w.position + ph.sweepStep) .up)
      ∧ (ph.sweepStep ≠ 0 → w.direction = .up → ph.sweepHigh ≤ w.position + ph.sweepStep →
          moved ph.sweepHigh .down)
      ∧ (ph.sweepStep ≠ 0 → w.direction = .down → ph.sweepLow + ph.sweepStep < w.position →
          moved (w.position - ph.sweepStep) .down)
      ∧ (ph.sweepStep ≠ 0 → w.direction = .down → w.position ≤ ph.sweepLow + ph.sweepStep →
          moved ph.sweepLow .up)

/-! ## Inspection and release -/

/-- INSPECT-PASS (R119, R120, R121, R124): its refusals in order, and the release written with the next certificate,
the clock and the deadline, the counter going from 999,999 to 1. -/
def Obligations.InspectPassReleases : Prop :=
  ∀ (b : Bay) (tag n i1 i2 : Byte) (s : State) (x : Named), s.Ready (.bay b) → s.IsOpen →
    s.nameBound (.bay b) n.toNat = .ok x →
    let inspector := number [i1, i2]
    let answers : AnswerCode → Prop := fun code =>
      exec (.inspectPass (.bay b) tag [n, i1, i2]) s = .next (s.replies (.bay b) .inspectPass tag code [])
    (inspector = 0 ∨ 9999 < inspector → answers .range)
    ∧ (1 ≤ inspector → inspector ≤ 9999 →
      (x.record.state ≠ .washed → answers .state)
      ∧ (x.record.state = .washed → ∀ k ∈ x.record.intent,
        let deadline := min (s.ret.clock + 3600 * s.ret.releaseLifetime) 4294967295
        exec (.inspectPass (.bay b) tag [n, i1, i2]) s = .next
          (({ s with ret := { s.ret with
              certificate := if s.ret.certificate = 999999 then 1 else s.ret.certificate + 1 } }.changeRecord x.ref
            { x.record with
              state := .released
              release := some ⟨s.ret.certificate, k, s.ret.clock, deadline, inspector⟩ }).replies
            (.bay b) .inspectPass tag .ok
            (byte3 s.ret.certificate ++ byte1 (k.val + 1) ++ byte4 deadline))))

/-- INSPECT-FAIL (R122, R123): its refusals in order, and the compartment DIRTY with INSPECT-FAILED and no wash
summary; with the upgrade flag the demand becomes DEEP, and a demand that was NONE takes a program. -/
def Obligations.InspectFailSendsBack : Prop :=
  ∀ (b : Bay) (tag n flag : Byte) (s : State) (x : Named), s.Ready (.bay b) → s.IsOpen →
    s.nameBound (.bay b) n.toNat = .ok x →
    let answers : AnswerCode → Prop := fun code =>
      exec (.inspectFail (.bay b) tag [n, flag]) s = .next (s.replies (.bay b) .inspectFail tag code [])
    let failed : Demand → Option ProgramNo → Prop := fun d program =>
      exec (.inspectFail (.bay b) tag [n, flag]) s = .next
        ((s.changeRecord x.ref
          { x.record with
            state := .dirty
            note := some .inspectFailed
            summary := none
            demand := some d
            program := program }).replies (.bay b) .inspectFail tag .ok
          (byte1 (match d with | .noWash => 0 | .wash => 1 | .deep => 2)
            ++ byte1 (match program with | none => 0 | some k => k.val + 1)))
    (1 < flag.toNat → answers .range)
    ∧ (flag.toNat ≤ 1 → x.record.state ≠ .washed → answers .state)
    ∧ (x.record.state = .washed → ∀ d ∈ x.record.demand,
      (flag.toNat = 0 → failed d x.record.program)
      ∧ (flag.toNat = 1 → d ≠ .noWash → failed .deep x.record.program)
      ∧ (flag.toNat = 1 → d = .noWash → ∀ newest older, x.record.history = newest :: older →
          failed .deep ((s.ret.classes[newest]).map (·.program)))
      ∧ (flag.toNat = 1 → d = .noWash → x.record.history = [] → ∀ k ∈ x.record.intent,
          failed .deep ((s.ret.classes[k]).map (·.program))))

/-- VOID-RELEASE (R127) and EMPTIED (R144): STATE outside the state each acts in, and the compartment back in WASHED
with VOIDED, or DIRTY with the parts its cargo leaves behind erased. -/
def Obligations.VoidReleaseAndEmptied : Prop :=
  ∀ (tag slot n : Byte) (s : State) (x : Named), s.Ready .office → s.nameAtSlot slot.toNat n.toNat = .ok x →
    (x.record.state ≠ .released →
      exec (.voidRelease .office tag [slot, n]) s = .next (s.replies .office .voidRelease tag .state []))
    ∧ (x.record.state = .released → ∀ rel ∈ x.record.release,
      exec (.voidRelease .office tag [slot, n]) s = .next
        ((s.changeRecord x.ref { x.record with state := .washed, note := some .voided, release := none }).replies
          .office .voidRelease tag .ok (byte3 rel.certificate)))
    ∧ (x.record.state ≠ .laden →
      exec (.emptied .office tag [slot, n]) s = .next (s.replies .office .emptied tag .state []))
    ∧ (x.record.state = .laden →
      exec (.emptied .office tag [slot, n]) s = .next
        ((s.changeRecord x.ref
          { x.record with state := .dirty, release := none, fill := none, summary := none }).replies
          .office .emptied tag .ok []))

/-- A check of the release timer sends a lapse for each overdue RELEASED record (R124, R125); a lapse that was sent is
taken only if its record is still RELEASED (R126, R129). The lapses on their way, at most one of a record, are the
model's own (log entry 9). -/
def Obligations.ReleaseTimerLapses : Prop :=
  ∀ (r : RecordRef) (s : State), s.mainPower = true →
    (s.act.releaseTimer = false → exec .releaseTimerCheck s = .next s)
    ∧ (s.act.releaseTimer = true → exec .releaseTimerCheck s = .next { s with act := { s.act with
        lapsesDue := Vector.ofFn (fun k : RecordRef => s.act.lapsesDue[k] || (match s.ret.pool[k] with
          | none => false
          | some c => decide (c.state = .released ∧ ∃ x ∈ c.release, x.deadline ≤ s.ret.clock))) } })
    ∧ (s.act.lapsesDue[r] = false → exec (.releaseLapse r) s = .next s)
    ∧ (s.act.lapsesDue[r] = true →
      let t : State := { s with act := { s.act with lapsesDue := s.act.lapsesDue.set r false } }
      ((∀ c ∈ s.ret.pool[r], c.state ≠ .released) → exec (.releaseLapse r) s = .next t)
      ∧ ∀ c ∈ s.ret.pool[r], c.state = .released → exec (.releaseLapse r) s = .next
          (t.changeRecord r { c with state := .dirty, note := some .lapsed, release := none, summary := none }))

/-- SET-CLOCK (R128) sets the clock and shifts every release deadline by the same amount, held from 0 to the clock's
maximum; the clock counts a second at a time up to its maximum, main power on or off (R172), while the retained domain
holds one (log entry 11). -/
def Obligations.YardClockSetAndCounts : Prop :=
  ∀ (tag c1 c2 c3 c4 : Byte) (s : State),
    (s.Ready .office →
      let reading := number [c1, c2, c3, c4]
      let shifted : Nat → Nat := fun d =>
        min (if s.ret.clock ≤ reading then d + (reading - s.ret.clock) else d - (s.ret.clock - reading)) 4294967295
      exec (.setClock .office tag [c1, c2, c3, c4]) s = .next
        ({ s with ret := { s.ret with
            clock := reading
            pool := s.ret.pool.map (fun (o : Option Compartment) => o.map (fun (c : Compartment) =>
              { c with release := c.release.map (fun (x : Release) =>
                { x with deadline := shifted x.deadline }) })) } }.replies
          .office .setClock tag .ok (byte4 s.ret.clock)))
    ∧ (s.ret.markerValid = true →
      exec .yardClockSecond s = .next { s with ret := { s.ret with clock := min (s.ret.clock + 1) 4294967295 } })
    ∧ (s.ret.markerValid = false → exec .yardClockSecond s = .next s)

/-! ## Filling -/

/-- FILL-START (R124, R133, R134): HELD, BUSY, STATE, LAPSED, CLASS and RANGE in that order, LAPSED with the lapse
made in the same step; otherwise the compartment FILLING with its preset cut to the capacity and nothing counted. No
STOPPED update is on its way then (log entry 9). -/
def Obligations.FillStartOpensTheFill : Prop :=
  ∀ (tag n k p1 p2 : Byte) (s : State) (x : Named), s.Ready .rack → s.IsOpen → s.nameBound .rack n.toNat = .ok x →
    let sent := exec (.fillStart .rack tag [n, k, p1, p2]) s
    let preset := number [p1, p2]
    let answers : AnswerCode → Prop := fun code => sent = .next (s.replies .rack .fillStart tag code [])
    ((s.hold .rack).nonEmpty = true → answers .held)
    ∧ ((s.hold .rack).nonEmpty = false →
      ((∃ r : RecordRef, ∃ c ∈ s.ret.pool[r], c.state = .filling) → answers .busy)
      ∧ ((∀ r : RecordRef, ∀ c ∈ s.ret.pool[r], c.state ≠ .filling) →
        (x.record.state ≠ .released → answers .state)
        ∧ (x.record.state = .released → ∀ rel ∈ x.record.release,
          (rel.deadline ≤ s.ret.clock → sent = .next
            ((s.changeRecord x.ref
              { x.record with state := .dirty, note := some .lapsed, release := none, summary := none }).replies
              .rack .fillStart tag .lapsed []))
          ∧ (s.ret.clock < rel.deadline → k.toNat ≠ rel.releasedFor.val + 1 → answers .cargoClass)
          ∧ (s.ret.clock < rel.deadline → k.toNat = rel.releasedFor.val + 1 → preset = 0 → answers .range)
          ∧ (s.ret.clock < rel.deadline → k.toNat = rel.releasedFor.val + 1 → 0 < preset →
            let cut : Bool := decide (x.record.capacity < preset)
            sent = .next
              (({ s with act := { s.act with fillUnit := ⟨some x.ref, false⟩ } }.changeRecord x.ref
                { x.record with
                  state := .filling
                  fill := some ⟨rel.releasedFor, min preset x.record.capacity, 0, none,
                    ⟨cut, false, false, false, false, false, false⟩⟩ }).replies .rack .fillStart tag .ok
                (byte2 (min preset x.record.capacity) ++ byteFlag cut ++ byte2 x.record.capacity
                  ++ byte3 rel.certificate))))))

/-- A counted pulse of the rack meter (R108, R135, R136, R138): discarded without a FILLING compartment; otherwise the
count rises by the meter constant up to 999,999, and reaching the preset or passing the capacity sets its mark and is
handed on, the cause OVERFILL joining the rack's hold set; and the STOPPED update (R137, log entry 9). -/
def Obligations.RackPulseCountsTheFill : Prop :=
  ∀ s : State, s.mainPower = true →
    let ch := s.act.pulses[(4 : Fin 5)]
    let rack := s.act.holds[(4 : Fin 5)]
    let t : State := { s with act := { s.act with
      pulses := s.act.pulses.set 4 ⟨⟨.high, 0⟩, (ch.total + 1) % 65536⟩ } }
    (ch.filter.accepted = .low → s.ret.pulseFilter .rack ≤ ch.filter.run + 1 → ch.total ≤ 65535 →
      (s.act.fillUnit.active = none → exec (.pulseSample .rack .high) s = .next t)
      ∧ ∀ r c, s.act.fillUnit.active = some r → s.ret.pool[r] = some c →
        (c.state ≠ .filling → exec (.pulseSample .rack .high) s = .next t)
        ∧ (c.state = .filling → ∀ f ∈ c.fill,
          let counted := min (f.counted + s.ret.meterConstant .rack) 999999
          let reaches : Prop := f.preset * 10 ≤ counted ∧ f.marks.presetReached = false
          let overflows : Prop := c.capacity * 10 < counted ∧ f.marks.overfill = false
          (¬ reaches → ¬ overflows → exec (.pulseSample .rack .high) s = .next
            (t.setRecord r (some { c with fill := some { f with counted := counted } })))
          ∧ (reaches → ¬ overflows → exec (.pulseSample .rack .high) s = .next
            (t.changeRecord r { c with fill := some { f with
              counted := counted
              marks := { f.marks with presetReached := true } } }))
          ∧ (overflows → exec (.pulseSample .rack .high) s = .next
            ({ t with act := { t.act with holds := s.act.holds.set 4 { rack with overfill := true } } }.changeRecord r
              { c with fill := some { f with
                counted := counted
                marks := { f.marks with
                  overfill := true
                  presetReached := f.marks.presetReached || decide (f.preset * 10 ≤ counted)
                  stopped := f.marks.stopped || !rack.nonEmpty } } }))))
    ∧ (s.act.fillUnit.stopDue = false → exec .fillStoppedMark s = .next s)
    ∧ (s.act.fillUnit.stopDue = true →
      let u : State := { s with act := { s.act with fillUnit := { s.act.fillUnit with stopDue := false } } }
      (s.act.fillUnit.active = none → exec .fillStoppedMark s = .next u)
      ∧ ∀ r c, s.act.fillUnit.active = some r → s.ret.pool[r] = some c →
        (c.state ≠ .filling → exec .fillStoppedMark s = .next u)
        ∧ (c.state = .filling → ∀ f ∈ c.fill, exec .fillStoppedMark s = .next
            (u.changeRecord r { c with fill := some { f with marks := { f.marks with stopped := true } } })))

/-- FILL-END (R139, R140) and FILL-ABORT (R141, R142): STATE unless the compartment is FILLING; the fill closed and
the compartment LADEN with the cargo at the head of its history, MISMATCH set when the report is out of tolerance; an
abort with nothing counted goes back to RELEASED. A STOPPED update still on its way is dropped (log entry 9). -/
def Obligations.FillEndAndAbortCloseTheFill : Prop :=
  ∀ (tag n v1 v2 : Byte) (s : State) (x : Named), s.Ready .rack → s.IsOpen → s.nameBound .rack n.toNat = .ok x →
    let idle : State := { s with act := { s.act with fillUnit := ⟨none, false⟩ } }
    (x.record.state ≠ .filling →
      exec (.fillEnd .rack tag [n, v1, v2]) s = .next (s.replies .rack .fillEnd tag .state [])
      ∧ exec (.fillAbort .rack tag [n]) s = .next (s.replies .rack .fillAbort tag .state []))
    ∧ (x.record.state = .filling → ∀ f ∈ x.record.fill,
      let laden : Fill → Compartment := fun g => { x.record with
        state := .laden
        history := (f.cargo :: x.record.history).take 3
        intent := none
        demand := none
        program := none
        fill := some g }
      let tol := if 40000 < f.counted then f.counted / 200 else 200
      let off : Bool := decide (tol < ((f.counted : Int) - 10 * (number [v1, v2] : Int)).natAbs)
      exec (.fillEnd .rack tag [n, v1, v2]) s = .next
        ((idle.changeRecord x.ref (laden { f with
          reported := some (number [v1, v2])
          marks := { f.marks with mismatch := f.marks.mismatch || off } })).replies .rack .fillEnd tag .ok
          (byte3 f.counted ++ byte2 tol ++ byteFlag off))
      ∧ (f.counted = 0 → exec (.fillAbort .rack tag [n]) s = .next
        ((idle.changeRecord x.ref { x.record with state := .released, fill := none }).replies
          .rack .fillAbort tag .ok [7#8, 0#8, 0#8, 0#8]))
      ∧ (0 < f.counted → exec (.fillAbort .rack tag [n]) s = .next
        ((idle.changeRecord x.ref (laden { f with marks := { f.marks with aborted := true } })).replies
          .rack .fillAbort tag .ok ([9#8] ++ byte3 f.counted))))

/-! ## Field lines and notices -/

/-- A sample of a field line (R147): the filter, and what an accepted change does: an active level acts under the
route entry unless MASKED (R149), an inactive one only leaves the BLOCK-GRANTS line set (R150). The STOPPED update it
sends is on its way until its event, one with an update already on its way (log entry 9). The grant request a decision
sends is the model's own (log entry 6). -/
def Obligations.LineSampleFilteredAndActs : Prop :=
  ∀ (l : Line) (level : Level) (s : State), s.mainPower = true →
    let e := s.ret.routes[l]
    let f := s.act.lines[l]
    let kept : Filter → State := fun g => { s with act := { s.act with lines := s.act.lines.set l g } }
    (level = f.accepted → exec (.lineSample l level) s = .next (kept ⟨f.accepted, 0⟩))
    ∧ (level ≠ f.accepted → f.run + 1 < e.filterN →
        exec (.lineSample l level) s = .next (kept ⟨f.accepted, f.run + 1⟩))
    ∧ (level ≠ f.accepted → e.filterN ≤ f.run + 1 →
      let active : Prop := level = if e.polarity = .activeLow then Level.low else Level.high
      (active → e.masked = true → exec (.lineSample l level) s = .next (kept ⟨level, 0⟩))
      ∧ (active → e.masked = false → exec (.lineSample l level) s = .next ((kept ⟨level, 0⟩).lineActs l e))
      ∧ (¬ active → exec (.lineSample l level) s = .next
        { kept ⟨level, 0⟩ with act := { (kept ⟨level, 0⟩).act with
          arbiter := Arbiter.decided { s.act.arbiter with
            blockLines := s.act.arbiter.blockLines.set l false } s.act.arbiter } }))

/-- WRITE-ROUTE (R78, R154, R155): RANGE, BUSY while any compartment is RUNNING or FILLING, and the entry stored: a
port no longer notified loses the line from its pending set, the BLOCK-GRANTS line set follows, and a line newly
active and unmasked acts. The STOPPED update it may send is on its way until its event, one with an update already
on its way (log entry 9). The grant request a decision sends is the model's own (log entry 6). -/
def Obligations.WriteRouteReplacesTheEntry : Prop :=
  ∀ (tag l mask polarity trigger action bay notify filterN : Byte) (s : State), s.Ready .office →
    let sent := exec (.writeRoute .office tag [l, mask, polarity, trigger, action, bay, notify, filterN]) s
    ((15 < l.toNat ∨ 1 < mask.toNat ∨ 1 < polarity.toNat ∨ 1 < trigger.toNat ∨ 4 < action.toNat
        ∨ (action.toNat = 1 ∧ (bay.toNat = 0 ∨ 4 < bay.toNat)) ∨ 63 < notify.toNat
        ∨ ¬ OneTwoFourEight filterN.toNat) →
      sent = .next (s.replies .office .writeRoute tag .range []))
    ∧ ∀ (line : Line) (e : Route), l.toNat = line.val → mask.toNat = (if e.masked = true then 1 else 0) →
      polarity.toNat = (if e.polarity = .activeLow then 0 else 1) →
      trigger.toNat = (if e.trigger = .edge then 0 else 1) →
      action.toNat = (match e.action with
        | .note => 0 | .holdBay _ => 1 | .holdAll => 2 | .stopRack => 3 | .blockGrants => 4) →
      (∀ b : Bay, e.action = .holdBay b → bay.toNat = b.val + 1) →
      notify.toNat < 64 → (∀ j : Fin 6, e.notify[j] = notify.getLsbD j.val) →
      filterN.toNat = e.filterN → OneTwoFourEight e.filterN →
      ((∃ r : RecordRef, ∃ c ∈ s.ret.pool[r], c.state = .running ∨ c.state = .filling) →
        sent = .next (s.replies .office .writeRoute tag .busy []))
      ∧ ((∀ r : RecordRef, ∀ c ∈ s.ret.pool[r], ¬ (c.state = .running ∨ c.state = .filling)) →
        let old := s.ret.routes[line]
        let acts : Route → Prop := fun x => x.masked = false
          ∧ (s.act.lines[line]).accepted = if x.polarity = .activeLow then Level.low else Level.high
        let stored : State := { s with
          ret := { s.ret with routes := s.ret.routes.set line e }
          act := { s.act with
            notices := Vector.ofFn (fun j : Fin 6 =>
              let x := s.act.notices[j]
              if old.notify[j] = true ∧ e.notify[j] = false then
                Notice.settled (x.pendingLines.set line false) x.changed else x)
            arbiter := Arbiter.decided { s.act.arbiter with
              blockLines := s.act.arbiter.blockLines.set line (decide (acts e ∧ e.action = .blockGrants)) }
                s.act.arbiter } }
        (acts e → ¬ acts old → sent = .next ((stored.lineActs line e).replies .office .writeRoute tag .ok []))
        ∧ (¬ acts e ∨ acts old → sent = .next (stored.replies .office .writeRoute tag .ok [])))

/-- RESUME (R152): RANGE for a position that does not exist, HELD with the lines still active, and otherwise the hold
set emptied with the number of its causes. -/
def Obligations.ResumeEmptiesAHoldSet : Prop :=
  ∀ (tag : Byte) (s : State),
    let resumed : Port → List Byte → Position → Prop := fun p body pos =>
      let active : Line → Prop := fun l =>
        (s.act.lines[l]).accepted = if (s.ret.routes[l]).polarity = .activeLow then Level.low else Level.high
      let h := s.act.holds[pos.index]
      ((∃ l : Line, h.lines[l] = true ∧ active l) →
        exec (.resume p tag body) s = .next (s.replies p .resume tag .held
          (lineBytes (Vector.ofFn (fun l : Line => h.lines[l] && decide (active l))))))
      ∧ ((∀ l : Line, h.lines[l] = true → ¬ active l) →
        exec (.resume p tag body) s = .next
          ({ s with act := { s.act with
              holds := s.act.holds.set pos.index ⟨Vector.replicate 16 false, false⟩ } }.replies p .resume tag .ok
            (byte1 ((List.finRange 16).countP (fun l => h.lines[l]) + if h.overfill = true then 1 else 0))))
    (∀ pos : Position, s.Ready pos.port → s.IsOpen → resumed pos.port [] pos)
    ∧ (s.Ready .office → ∀ n : Byte,
      (n.toNat = 0 ∨ 5 < n.toNat →
        exec (.resume .office tag [n]) s = .next (s.replies .office .resume tag .range []))
      ∧ (∀ b : Bay, n.toNat = b.val + 1 → resumed .office [n] (.bay b))
      ∧ (n.toNat = 5 → resumed .office [n] .rack))

/-- EVENTS (R159) reports the port's two sets, whose references name records in use, and empties its changed set;
ACK-LINE (R160) takes a line out of the pending set, or puts it in where it is still a LEVEL line, unmasked, notified
to the port and active. -/
def Obligations.EventsReadAndLinesAcknowledged : Prop :=
  ∀ (p : Port) (tag : Byte) (s : State), s.Ready p →
    let n := s.act.notices[p.index]
    let listed : Prop := ∀ r : RecordRef, n.changed[r] = true → s.ret.pool[r] ≠ none
    let asked : LineSet → State := fun v => { s with act := { s.act with
      notices := s.act.notices.set p.index (Notice.settled v n.changed) } }
    let told : List RecordRef := (List.finRange 64).filter (fun r => n.changed[r])
    let report : List Byte := [if s.act.mode = .opened then 1#8 else 0#8] ++ lineBytes n.pendingLines
      ++ byte1 told.length ++ told.flatMap (fun r => match s.ret.pool[r] with
        | some c => byte1 r.val ++ byte1 c.state.code ++ byte1 (match c.note with | none => 0 | some x => x.code)
        | none => [])
    (listed → exec (.events p tag []) s = .next
      ({ s with act := { s.act with
          notices := s.act.notices.set p.index (Notice.settled n.pendingLines (Vector.replicate 64 false)) } }.replies
        p .events tag .ok report))
    ∧ (∀ l : Byte, 15 < l.toNat → exec (.ackLine p tag [l]) s = .next (s.replies p .ackLine tag .range []))
    ∧ ∀ (l : Byte) (line : Line), l.toNat = line.val →
      let e := s.ret.routes[line]
      let again : Prop := e.trigger = .level ∧ e.masked = false ∧ e.notify[p.index] = true
        ∧ (s.act.lines[line]).accepted = if e.polarity = .activeLow then Level.low else Level.high
      (again → exec (.ackLine p tag [l]) s = .next
        ((asked (n.pendingLines.set line true)).replies p .ackLine tag .ok [1#8]))
      ∧ (¬ again → exec (.ackLine p tag [l]) s = .next
        ((asked (n.pendingLines.set line false)).replies p .ackLine tag .ok [0#8]))

/-! ## Reads of the part -/

/-- STATUS (R166), READ-LOOP (R81), READ-INSTRUMENTS (R117), READ-ROUTE (R156) and READ-SETTING (R176) report what
stands and change nothing but the answer; a READ-ROUTE spends a free value, which is the bay byte of an entry whose
action is not HOLD-BAY (log entry 3), and its layout is the model's (log entry 16). -/
def Obligations.ReadsReportWhatStands : Prop :=
  ∀ (tag x : Byte) (s : State),
    let a := s.act.arbiter
    let causes : Byte :=
      BitVec.ofNat 8 (a.lowPressure.toNat + 2 * (decide (∃ l : Line, a.blockLines[l] = true)).toNat
        + 4 * a.recovery.toNat)
    let mode : Byte := if s.act.mode = .opened then 1#8 else 0#8
    (∀ pos : Position, s.Ready pos.port →
      exec (.status pos.port tag []) s = .next (s.replies pos.port .status tag .ok
        ([mode] ++ byte1 (match s.ret.bindings[pos.index] with | none => 0 | some i => i.val + 1)
          ++ lineBytes (s.act.holds[pos.index]).lines
          ++ (if pos = .rack then byteFlag (s.act.holds[(4 : Fin 5)]).overfill else [0#8]) ++ [causes]
          ++ byteFlag (s.act.notices[pos.port.index]).attention
          ++ byte1 (s.act.ports[pos.port.index]).discards)))
    ∧ (s.Ready .office →
      exec (.status .office tag []) s = .next (s.replies .office .status tag .ok
        ([mode, 0#8, 0#8, 0#8, 0#8, causes] ++ byteFlag (s.act.notices[(5 : Fin 6)]).attention
          ++ byte1 (s.act.ports[(5 : Fin 6)]).discards))
      ∧ exec (.readLoop .office tag []) s = .next (s.replies .office .readLoop tag .ok
        (byte1 a.capacity ++ byte1 a.granted ++ [causes] ++ lineBytes a.blockLines
          ++ (List.finRange 4).flatMap (fun b => byte1 (s.sharesAt b)) ++ byte1 a.queue.length
          ++ a.queue.flatMap (fun q => byte1 (q.bay.val + 1) ++ byte1 q.ref.val ++ byte1 q.shares
            ++ byteFlag q.clamped ++ byte1 q.passCount)))
      ∧ exec (.readInstruments .office tag []) s = .next (s.replies .office .readInstruments tag .ok
        ((List.finRange 6).flatMap (fun ch =>
            let z := s.act.slots[ch]
            (match z.code with
              | none => [0#8, 0#8, 0#8]
              | some k => [if z.faulty then 2#8 else 1#8] ++ byte2 k.val)
            ++ (match z.lastGood with
              | none => [0#8, 0#8, 0#8, 0xFF#8, 0xFF#8]
              | some v => [1#8] ++ byte2 v ++ byte2 z.age))
          ++ ([.bay 0, .bay 1, .bay 2, .bay 3, .rack] : List Position).flatMap (fun m =>
            let z := s.act.pulses[m.index]
            [if z.filter.accepted = .high then 1#8 else 0#8] ++ byte1 z.filter.run ++ byte1 (s.ret.pulseFilter m)
              ++ byte2 z.total)
          ++ (List.finRange 4).flatMap (fun b =>
            let z := s.act.outputs[b]
            byte2 z.valve ++ byte2 z.sweep ++ (match z.generator with
              | none => [0#8, 0#8]
              | some w => [1#8, if w.direction = .down then 1#8 else 0#8]))))
      ∧ (15 < x.toNat →
        exec (.readRoute .office tag [x]) s = .next (s.replies .office .readRoute tag .range []))
      ∧ (∀ l : Line, x.toNat = l.val →
        let e := s.ret.routes[l]
        let f := s.act.lines[l]
        let flag : Bool → Byte := fun b => if b = true then 1#8 else 0#8
        let report : List Byte :=
          [x, flag e.masked, flag (e.polarity = .activeHigh), flag (e.trigger = .level)]
            ++ (match e.action with
              | .note => [0#8, Config.routeBayByte s.freeCount]
              | .holdBay b => [1#8] ++ byte1 (b.val + 1)
              | .holdAll => [2#8, Config.routeBayByte s.freeCount]
              | .stopRack => [3#8, Config.routeBayByte s.freeCount]
              | .blockGrants => [4#8, Config.routeBayByte s.freeCount])
            ++ [BitVec.ofNat 8 ((List.finRange 6).foldl (fun n j => n + if e.notify[j] then 2 ^ j.val else 0) 0)]
            ++ byte1 e.filterN ++ [flag (f.accepted = .high)] ++ byte1 f.run
            ++ [flag (f.accepted = if e.polarity = .activeLow then Level.low else Level.high)]
            ++ (List.finRange 5).flatMap (fun q => lineBytes (s.act.holds[q]).lines)
            ++ [flag (s.act.holds[(4 : Fin 5)]).overfill]
        exec (.readRoute .office tag [x]) s = .next
          ({ s with freeCount := s.freeCount + 1 }.replies .office .readRoute tag .ok report))
      ∧ (25 < x.toNat →
        exec (.readSetting .office tag [x]) s = .next (s.replies .office .readSetting tag .range []))
      ∧ (x.toNat = 0 →
        exec (.readSetting .office tag [x]) s = .next (s.replies .office .readSetting tag .ok
          (byte4 s.ret.clock ++ byte3 s.ret.certificate ++ [mode])))
      ∧ ∀ i : Fin 25, x.toNat = i.val + 1 →
        exec (.readSetting .office tag [x]) s = .next (s.replies .office .readSetting tag .ok
          (byte2 s.ret.settings[i])))

/-! ## Retained memory, power loss and recovery -/

/-- WRITE-SETTING (R75, R114, R174, R175): the value held in its setting's range, a filter raised to the next of 1, 2,
4 and 8, and stored; setting 1 is taken by the arbiter and a park value by a stopped sweep in the same step. The
ranges are those of `settingLow` and `settingHigh`, which the tests hold against R174. The grant request a decision
sends is the model's own (log entry 6). -/
def Obligations.WriteSettingStoresAndActs : Prop :=
  ∀ (tag n v1 v2 : Byte) (s : State), s.Ready .office →
    (n.toNat = 0 ∨ 25 < n.toNat →
      exec (.writeSetting .office tag [n, v1, v2]) s = .next (s.replies .office .writeSetting tag .range []))
    ∧ ∀ (i : Fin 25) (v : Nat), n.toNat = i.val + 1 →
      (12 ≤ i.val → i.val ≤ 16 → OneTwoFourEight v
        ∧ (number [v1, v2] ≤ v ∨ v = 8) ∧ ∀ u, OneTwoFourEight u → number [v1, v2] ≤ u → v ≤ u) →
      (i.val < 12 ∨ 16 < i.val →
        (number [v1, v2] < settingLow i → v = settingLow i) ∧ (settingHigh i < number [v1, v2] → v = settingHigh i)
          ∧ (settingLow i ≤ number [v1, v2] → number [v1, v2] ≤ settingHigh i → v = number [v1, v2])) →
      exec (.writeSetting .office tag [n, v1, v2]) s = .next
        ({ s with
          ret := { s.ret with settings := s.ret.settings.set i v }
          act := { s.act with
            arbiter :=
              if i = 0 then Arbiter.decided { s.act.arbiter with capacity := v } s.act.arbiter else s.act.arbiter
            outputs := Vector.ofFn (fun b : Bay =>
              let o := s.act.outputs[b]
              if i.val = 21 + b.val ∧ o.generator = none then { o with sweep := v } else o) } }.replies
          .office .writeSetting tag .ok (byte2 v))

/-- OPEN-YARD (R79, R125, R173): STATE in OPEN; in RECOVERY the mode and the RECOVERY cause change, the release timer
starts, and its first check lapses every overdue release in the same step. YARD-RESET (R171) is answered OK; its reset
follows. The stage of a YARD-RESET is the model's (log entry 8). The grant request a decision sends is the model's own
(log entry 6). -/
def Obligations.OpenYardAndYardReset : Prop :=
  ∀ (tag : Byte) (s : State), s.Ready .office →
    (s.act.mode = .opened →
      exec (.openYard .office tag []) s = .next (s.replies .office .openYard tag .state []))
    ∧ (s.act.mode = .recovery →
      let overdue : List RecordRef := (List.finRange 64).filter (fun r => match s.ret.pool[r] with
        | none => false
        | some c => decide (c.state = .released ∧ ∃ x ∈ c.release, x.deadline ≤ s.ret.clock))
      exec (.openYard .office tag []) s = .next
        ((overdue.foldl (fun (t : State) r => match s.ret.pool[r] with
            | none => t
            | some c => t.changeRecord r
                { c with state := .dirty, note := some .lapsed, release := none, summary := none })
          { s with act := { s.act with
            mode := .opened
            arbiter := Arbiter.decided { s.act.arbiter with recovery := false } s.act.arbiter
            releaseTimer := true } }).replies .office .openYard tag .ok (byte1 overdue.length)))
    ∧ exec (.yardReset .office tag []) s = .next
        ({ s with act := { s.act with yardReset := .answering } }.replies .office .yardReset tag .ok [])

/-- The three starts (R20, R65, R82, R100, R106, R110, R116, R145, R151, R157, R167, R169, R170): a power-up with an
invalid marker makes the cold start, one with a valid marker the restart from the retained domain, and so does the
effect of a taken YARD-RESET; each leaves its own premise only (log entries 8, 11). -/
def Obligations.TheThreeStarts : Prop :=
  ∀ s : State,
    (s.mainPower = false → s.ret.markerValid = false → exec .coldStart s = .next
      { s with
        ret :=
          { classes := Vector.replicate 48 none
            follow := Vector.replicate 12 (Vector.replicate 12 .wash)
            programs := Vector.replicate 16 []
            routes := State.reset.ret.routes
            settings := #v[8, 250, 600, 120, 1200, 12, 10, 10, 10, 10, 10, 10, 4, 4, 4, 4, 4, 600, 600, 600, 600,
              0, 0, 0, 0]
            clock := 0
            certificate := 1
            tankers := Vector.replicate 12 none
            pool := Vector.replicate 64 none
            freeList := List.finRange 64
            bindings := Vector.replicate 5 none
            markerValid := true }
        act := startedActive 8 (Vector.replicate 4 ⟨0, 0, none⟩) (Vector.replicate 16 ⟨.high, 0⟩)
          ⟨Vector.replicate 16 false, Vector.replicate 64 false, false⟩
        mainPower := true })
    ∧ (s.mainPower = true ∨ s.ret.markerValid = true → exec .coldStart s = .next s)
    ∧ (s.mainPower = false → s.ret.markerValid = true → exec .powerReturn s = .next s.restarted)
    ∧ (s.mainPower = true ∨ s.ret.markerValid = false → exec .powerReturn s = .next s)
    ∧ (s.mainPower = true → s.act.yardReset ≠ .idle → exec .yardResetEffect s = .next s.restarted)
    ∧ (s.act.yardReset = .idle → exec .yardResetEffect s = .next s)

/-- Losing a supply (R116, R167, R168, R169): without main power the outputs are 0, every attention line is released
and no port is in a frame, holds one or sends, while the retained domain stands; without the backup supply too its
marker is no longer valid. What is lost is a free value (log entry 4); that the backup supply's loss matters only
without main power is the model's deduction (log entry 11). -/
def Obligations.LosingASupply : Prop :=
  ∀ s : State,
    (s.mainPower = true → exec .mainPowerLoss s = .next { s with
        act := { Config.lostActive s.freeCount with
          outputs := Vector.replicate 4 ⟨0, 0, none⟩
          notices := Vector.replicate 6 ⟨Vector.replicate 16 false, Vector.replicate 64 false, false⟩
          ports := Vector.replicate 6 ⟨.hunting, none, none, 0⟩
          yardReset := .idle }
        mainPower := false
        freeCount := s.freeCount + 1 })
    ∧ (s.mainPower = false → exec .mainPowerLoss s = .next s)
    ∧ (s.mainPower = false → exec .backupSupplyLoss s = .next { s with
        ret := { Config.lostRetained s.freeCount with markerValid := false }
        freeCount := s.freeCount + 1 })
    ∧ (s.mainPower = true → exec .backupSupplyLoss s = .next s)

/-- Every step keeps the law of the yard mode: RECOVERY with its block cause, without a release timer, a binding, a wash
or a fill, and OPEN with a release timer (R79, R125, R170, R171, R173). -/
def Obligations.StepKeepsModeLaw : Prop := ∀ s t : State, s.Sound → step s = .next t → t.ModeLaw
end

