-- ==== Sys2Proof/Laws/Events.lean ====
section
/-! SUPPORT. What an event command does on a powered part, one lemma an event, and what a bay is running. The proofs
about an event cite these and unfold only the chapter's own operation. -/

namespace Sys2Proof.Machine

variable {s : State} (hp : s.mainPower = true)

include hp

theorem exec_phaseTimerTick (b : Bay) : exec (.phaseTimerTick b) s = .next (s.phaseTick b) := by
  simp [exec, execPhaseTimerTick, whenPowered, hp]

theorem exec_phaseTimerExpiry (b : Bay) : exec (.phaseTimerExpiry b) s = .next (s.phaseExpiry b) := by
  simp [exec, execPhaseTimerExpiry, whenPowered, hp]

theorem exec_handoverTimerExpiry (b : Bay) : exec (.handoverTimerExpiry b) s = .next (s.handoverExpiry b) := by
  simp [exec, execHandoverTimerExpiry, whenPowered, hp]

theorem exec_reEntryTimerExpiry (b : Bay) : exec (.reEntryTimerExpiry b) s = .next (s.reEntryExpiry b) := by
  simp [exec, execReEntryTimerExpiry, whenPowered, hp]

theorem exec_holdTimerExpiry (b : Bay) : exec (.holdTimerExpiry b) s = .next (s.holdExpiry b) := by
  simp [exec, execHoldTimerExpiry, whenPowered, hp]

theorem exec_washHold (b : Bay) : exec (.washHold b) s = .next (s.holdStep b) := by
  simp [exec, execWashHold, whenPowered, hp]

theorem exec_washResume (b : Bay) : exec (.washResume b) s = .next (s.resumeStep b) := by
  simp [exec, execWashResume, whenPowered, hp]

theorem exec_accountingIntervalClose (b : Bay) : exec (.accountingIntervalClose b) s = .next (s.closeInterval b) := by
  simp [exec, execAccountingIntervalClose, whenPowered, hp]

theorem exec_sweepTick (b : Bay) : exec (.sweepTick b) s = .next (s.sweepStep b) := by
  simp [exec, execSweepTick, whenPowered, hp]

theorem exec_grant : exec .grant s = .next (s.grantStep) := by
  simp [exec, execGrant, whenPowered, hp]

theorem exec_scanConversion (ch : Probe) (code : Code) :
    exec (.scanConversion ch code) s = .next (s.convert ch code) := by
  simp [exec, execScanConversion, whenPowered, hp]

theorem exec_pulseSample (m : Position) (level : Level) :
    exec (.pulseSample m level) s = .next (s.samplePulse m level) := by
  simp [exec, execPulseSample, whenPowered, hp]

theorem exec_lineSample (l : Line) (level : Level) : exec (.lineSample l level) s = .next (s.sampleLine l level) := by
  simp [exec, execLineSample, whenPowered, hp]

theorem exec_fillStoppedMark : exec .fillStoppedMark s = .next (s.stoppedStep) := by
  simp [exec, execFillStoppedMark, whenPowered, hp]

theorem exec_releaseTimerCheck : exec .releaseTimerCheck s = .next (s.timerCheck) := by
  simp [exec, execReleaseTimerCheck, whenPowered, hp]

theorem exec_releaseLapse (r : RecordRef) : exec (.releaseLapse r) s = .next (s.lapseStep r) := by
  simp [exec, execReleaseLapse, whenPowered, hp]

theorem exec_ageMillisecond : exec .ageMillisecond s = .next (s.ageStep) := by
  simp [exec, execAgeMillisecond, whenPowered, hp]

theorem exec_requestByteReceived (p : Port) (x : Byte) (err : Bool) :
    exec (.requestByteReceived p x err) s = .next (s.receiveByte p x err) := by
  simp [exec, execRequestByteReceived, whenPowered, hp]

theorem exec_interByteTimeout (p : Port) : exec (.interByteTimeout p) s = .next (s.gap p) := by
  simp [exec, execInterByteTimeout, whenPowered, hp]

theorem exec_answerSendComplete (p : Port) : exec (.answerSendComplete p) s = .next (s.answerSent p) := by
  simp [exec, execAnswerSendComplete, whenPowered, hp]

omit hp

/-- A bay whose compartment is RUNNING in a phase of its program runs that. -/
theorem State.Runs.runningAt {b : Bay} {r : RecordRef} {c : Compartment} {p : Progress} {ph : Phase}
    (h : s.Runs b r c p ph) : s.runningAt b = some ⟨r, c, p, ph⟩ := by
  obtain ⟨h1, h2, h3, h4, h5, k, h6, h7⟩ := h
  have h6' : c.program = some k := h6
  have : ¬ p.phaseIndex = 0 := by omega
  simp only [State.runningAt, h1, State.record, h2, h3, h4, State.phaseOf, h6']
  simpa [this] using h7

/-- A bay without a RUNNING compartment runs nothing. -/
theorem State.NotRunning.runningAt {b : Bay} (h : s.NotRunning b) : s.runningAt b = none := by
  cases hu : (s.act.units[b]).active with
  | none => simp only [State.runningAt, hu]
  | some r =>
    cases hc : s.ret.pool[r] with
    | none => simp only [State.runningAt, hu, State.record, hc]
    | some c =>
      have := h r hu c hc
      simp only [State.runningAt, hu, State.record, hc]
      split
      · contradiction
      · rfl

end Sys2Proof.Machine
end

