-- ==== Sys2Proof/Laws/State.lean ====
section
/-! SUPPORT. One lemma for each field of the state and each named update of Machine/Ops.lean and the chapters' files:
what the update writes there, or that it leaves the field alone. Each is true by unfolding, so that no later proof
unfolds a record update. -/

namespace Sys2Proof.Machine

variable (s : State)

/-! ## Writing the record of a reference -/

section

variable (r : RecordRef) (c : Option Compartment)

@[simp] theorem State.setRecord_act : (s.setRecord r c).act = s.act := rfl
@[simp] theorem State.setRecord_mainPower : (s.setRecord r c).mainPower = s.mainPower := rfl
@[simp] theorem State.setRecord_freeCount : (s.setRecord r c).freeCount = s.freeCount := rfl
@[simp] theorem State.setRecord_pending : (s.setRecord r c).pending = s.pending := rfl
@[simp] theorem State.setRecord_classes : (s.setRecord r c).ret.classes = s.ret.classes := rfl
@[simp] theorem State.setRecord_follow : (s.setRecord r c).ret.follow = s.ret.follow := rfl
@[simp] theorem State.setRecord_programs : (s.setRecord r c).ret.programs = s.ret.programs := rfl
@[simp] theorem State.setRecord_routes : (s.setRecord r c).ret.routes = s.ret.routes := rfl
@[simp] theorem State.setRecord_settings : (s.setRecord r c).ret.settings = s.ret.settings := rfl
@[simp] theorem State.setRecord_clock : (s.setRecord r c).ret.clock = s.ret.clock := rfl
@[simp] theorem State.setRecord_certificate : (s.setRecord r c).ret.certificate = s.ret.certificate := rfl
@[simp] theorem State.setRecord_tankers : (s.setRecord r c).ret.tankers = s.ret.tankers := rfl
@[simp] theorem State.setRecord_pool : (s.setRecord r c).ret.pool = s.ret.pool.set r c := rfl
@[simp] theorem State.setRecord_freeList : (s.setRecord r c).ret.freeList = s.ret.freeList := rfl
@[simp] theorem State.setRecord_bindings : (s.setRecord r c).ret.bindings = s.ret.bindings := rfl
@[simp] theorem State.setRecord_markerValid : (s.setRecord r c).ret.markerValid = s.ret.markerValid := rfl

end

/-! ## Writing a tanker slot -/

section

variable (i : Slot) (t : Option Tanker)

@[simp] theorem State.setTanker_act : (s.setTanker i t).act = s.act := rfl
@[simp] theorem State.setTanker_mainPower : (s.setTanker i t).mainPower = s.mainPower := rfl
@[simp] theorem State.setTanker_freeCount : (s.setTanker i t).freeCount = s.freeCount := rfl
@[simp] theorem State.setTanker_pending : (s.setTanker i t).pending = s.pending := rfl
@[simp] theorem State.setTanker_classes : (s.setTanker i t).ret.classes = s.ret.classes := rfl
@[simp] theorem State.setTanker_follow : (s.setTanker i t).ret.follow = s.ret.follow := rfl
@[simp] theorem State.setTanker_programs : (s.setTanker i t).ret.programs = s.ret.programs := rfl
@[simp] theorem State.setTanker_routes : (s.setTanker i t).ret.routes = s.ret.routes := rfl
@[simp] theorem State.setTanker_settings : (s.setTanker i t).ret.settings = s.ret.settings := rfl
@[simp] theorem State.setTanker_clock : (s.setTanker i t).ret.clock = s.ret.clock := rfl
@[simp] theorem State.setTanker_certificate : (s.setTanker i t).ret.certificate = s.ret.certificate := rfl
@[simp] theorem State.setTanker_tankers : (s.setTanker i t).ret.tankers = s.ret.tankers.set i t := rfl
@[simp] theorem State.setTanker_pool : (s.setTanker i t).ret.pool = s.ret.pool := rfl
@[simp] theorem State.setTanker_freeList : (s.setTanker i t).ret.freeList = s.ret.freeList := rfl
@[simp] theorem State.setTanker_bindings : (s.setTanker i t).ret.bindings = s.ret.bindings := rfl
@[simp] theorem State.setTanker_markerValid : (s.setTanker i t).ret.markerValid = s.ret.markerValid := rfl

end

/-! ## Writing a position's binding -/

section

variable (p : Position) (o : Option Slot)

@[simp] theorem State.setBinding_act : (s.setBinding p o).act = s.act := rfl
@[simp] theorem State.setBinding_mainPower : (s.setBinding p o).mainPower = s.mainPower := rfl
@[simp] theorem State.setBinding_freeCount : (s.setBinding p o).freeCount = s.freeCount := rfl
@[simp] theorem State.setBinding_pending : (s.setBinding p o).pending = s.pending := rfl
@[simp] theorem State.setBinding_classes : (s.setBinding p o).ret.classes = s.ret.classes := rfl
@[simp] theorem State.setBinding_follow : (s.setBinding p o).ret.follow = s.ret.follow := rfl
@[simp] theorem State.setBinding_programs : (s.setBinding p o).ret.programs = s.ret.programs := rfl
@[simp] theorem State.setBinding_routes : (s.setBinding p o).ret.routes = s.ret.routes := rfl
@[simp] theorem State.setBinding_settings : (s.setBinding p o).ret.settings = s.ret.settings := rfl
@[simp] theorem State.setBinding_clock : (s.setBinding p o).ret.clock = s.ret.clock := rfl
@[simp] theorem State.setBinding_certificate : (s.setBinding p o).ret.certificate = s.ret.certificate := rfl
@[simp] theorem State.setBinding_tankers : (s.setBinding p o).ret.tankers = s.ret.tankers := rfl
@[simp] theorem State.setBinding_pool : (s.setBinding p o).ret.pool = s.ret.pool := rfl
@[simp] theorem State.setBinding_freeList : (s.setBinding p o).ret.freeList = s.ret.freeList := rfl
@[simp] theorem State.setBinding_bindings : (s.setBinding p o).ret.bindings = s.ret.bindings.set p.index o := rfl
@[simp] theorem State.setBinding_markerValid : (s.setBinding p o).ret.markerValid = s.ret.markerValid := rfl

end

/-! ## Writing a class entry -/

section

variable (k : ClassNo) (d : Option ClassDef)

@[simp] theorem State.setClass_act : (s.setClass k d).act = s.act := rfl
@[simp] theorem State.setClass_mainPower : (s.setClass k d).mainPower = s.mainPower := rfl
@[simp] theorem State.setClass_freeCount : (s.setClass k d).freeCount = s.freeCount := rfl
@[simp] theorem State.setClass_pending : (s.setClass k d).pending = s.pending := rfl
@[simp] theorem State.setClass_classes : (s.setClass k d).ret.classes = s.ret.classes.set k d := rfl
@[simp] theorem State.setClass_follow : (s.setClass k d).ret.follow = s.ret.follow := rfl
@[simp] theorem State.setClass_programs : (s.setClass k d).ret.programs = s.ret.programs := rfl
@[simp] theorem State.setClass_routes : (s.setClass k d).ret.routes = s.ret.routes := rfl
@[simp] theorem State.setClass_settings : (s.setClass k d).ret.settings = s.ret.settings := rfl
@[simp] theorem State.setClass_clock : (s.setClass k d).ret.clock = s.ret.clock := rfl
@[simp] theorem State.setClass_certificate : (s.setClass k d).ret.certificate = s.ret.certificate := rfl
@[simp] theorem State.setClass_tankers : (s.setClass k d).ret.tankers = s.ret.tankers := rfl
@[simp] theorem State.setClass_pool : (s.setClass k d).ret.pool = s.ret.pool := rfl
@[simp] theorem State.setClass_freeList : (s.setClass k d).ret.freeList = s.ret.freeList := rfl
@[simp] theorem State.setClass_bindings : (s.setClass k d).ret.bindings = s.ret.bindings := rfl
@[simp] theorem State.setClass_markerValid : (s.setClass k d).ret.markerValid = s.ret.markerValid := rfl

end

/-! ## Writing a program -/

section

variable (k : ProgramNo) (phs : List Phase)

@[simp] theorem State.setProgram_act : (s.setProgram k phs).act = s.act := rfl
@[simp] theorem State.setProgram_mainPower : (s.setProgram k phs).mainPower = s.mainPower := rfl
@[simp] theorem State.setProgram_freeCount : (s.setProgram k phs).freeCount = s.freeCount := rfl
@[simp] theorem State.setProgram_pending : (s.setProgram k phs).pending = s.pending := rfl
@[simp] theorem State.setProgram_classes : (s.setProgram k phs).ret.classes = s.ret.classes := rfl
@[simp] theorem State.setProgram_follow : (s.setProgram k phs).ret.follow = s.ret.follow := rfl
@[simp] theorem State.setProgram_programs : (s.setProgram k phs).ret.programs = s.ret.programs.set k phs := rfl
@[simp] theorem State.setProgram_routes : (s.setProgram k phs).ret.routes = s.ret.routes := rfl
@[simp] theorem State.setProgram_settings : (s.setProgram k phs).ret.settings = s.ret.settings := rfl
@[simp] theorem State.setProgram_clock : (s.setProgram k phs).ret.clock = s.ret.clock := rfl
@[simp] theorem State.setProgram_certificate : (s.setProgram k phs).ret.certificate = s.ret.certificate := rfl
@[simp] theorem State.setProgram_tankers : (s.setProgram k phs).ret.tankers = s.ret.tankers := rfl
@[simp] theorem State.setProgram_pool : (s.setProgram k phs).ret.pool = s.ret.pool := rfl
@[simp] theorem State.setProgram_freeList : (s.setProgram k phs).ret.freeList = s.ret.freeList := rfl
@[simp] theorem State.setProgram_bindings : (s.setProgram k phs).ret.bindings = s.ret.bindings := rfl
@[simp] theorem State.setProgram_markerValid : (s.setProgram k phs).ret.markerValid = s.ret.markerValid := rfl

end

/-! ## Writing a route entry -/

section

variable (l : Line) (e : Route)

@[simp] theorem State.setRoute_act : (s.setRoute l e).act = s.act := rfl
@[simp] theorem State.setRoute_mainPower : (s.setRoute l e).mainPower = s.mainPower := rfl
@[simp] theorem State.setRoute_freeCount : (s.setRoute l e).freeCount = s.freeCount := rfl
@[simp] theorem State.setRoute_pending : (s.setRoute l e).pending = s.pending := rfl
@[simp] theorem State.setRoute_classes : (s.setRoute l e).ret.classes = s.ret.classes := rfl
@[simp] theorem State.setRoute_follow : (s.setRoute l e).ret.follow = s.ret.follow := rfl
@[simp] theorem State.setRoute_programs : (s.setRoute l e).ret.programs = s.ret.programs := rfl
@[simp] theorem State.setRoute_routes : (s.setRoute l e).ret.routes = s.ret.routes.set l e := rfl
@[simp] theorem State.setRoute_settings : (s.setRoute l e).ret.settings = s.ret.settings := rfl
@[simp] theorem State.setRoute_clock : (s.setRoute l e).ret.clock = s.ret.clock := rfl
@[simp] theorem State.setRoute_certificate : (s.setRoute l e).ret.certificate = s.ret.certificate := rfl
@[simp] theorem State.setRoute_tankers : (s.setRoute l e).ret.tankers = s.ret.tankers := rfl
@[simp] theorem State.setRoute_pool : (s.setRoute l e).ret.pool = s.ret.pool := rfl
@[simp] theorem State.setRoute_freeList : (s.setRoute l e).ret.freeList = s.ret.freeList := rfl
@[simp] theorem State.setRoute_bindings : (s.setRoute l e).ret.bindings = s.ret.bindings := rfl
@[simp] theorem State.setRoute_markerValid : (s.setRoute l e).ret.markerValid = s.ret.markerValid := rfl

end

/-! ## Writing a setting -/

section

variable (i : Fin 25) (v : Nat)

@[simp] theorem State.storeSetting_act : (s.storeSetting i v).act = s.act := rfl
@[simp] theorem State.storeSetting_mainPower : (s.storeSetting i v).mainPower = s.mainPower := rfl
@[simp] theorem State.storeSetting_freeCount : (s.storeSetting i v).freeCount = s.freeCount := rfl
@[simp] theorem State.storeSetting_pending : (s.storeSetting i v).pending = s.pending := rfl
@[simp] theorem State.storeSetting_classes : (s.storeSetting i v).ret.classes = s.ret.classes := rfl
@[simp] theorem State.storeSetting_follow : (s.storeSetting i v).ret.follow = s.ret.follow := rfl
@[simp] theorem State.storeSetting_programs : (s.storeSetting i v).ret.programs = s.ret.programs := rfl
@[simp] theorem State.storeSetting_routes : (s.storeSetting i v).ret.routes = s.ret.routes := rfl
@[simp] theorem State.storeSetting_settings : (s.storeSetting i v).ret.settings = s.ret.settings.set i v := rfl
@[simp] theorem State.storeSetting_clock : (s.storeSetting i v).ret.clock = s.ret.clock := rfl
@[simp] theorem State.storeSetting_certificate : (s.storeSetting i v).ret.certificate = s.ret.certificate := rfl
@[simp] theorem State.storeSetting_tankers : (s.storeSetting i v).ret.tankers = s.ret.tankers := rfl
@[simp] theorem State.storeSetting_pool : (s.storeSetting i v).ret.pool = s.ret.pool := rfl
@[simp] theorem State.storeSetting_freeList : (s.storeSetting i v).ret.freeList = s.ret.freeList := rfl
@[simp] theorem State.storeSetting_bindings : (s.storeSetting i v).ret.bindings = s.ret.bindings := rfl
@[simp] theorem State.storeSetting_markerValid : (s.storeSetting i v).ret.markerValid = s.ret.markerValid := rfl

end

/-! ## Writing the certificate counter -/

section

@[simp] theorem State.advanceCertificate_act : (s.advanceCertificate).act = s.act := rfl
@[simp] theorem State.advanceCertificate_mainPower : (s.advanceCertificate).mainPower = s.mainPower := rfl
@[simp] theorem State.advanceCertificate_freeCount : (s.advanceCertificate).freeCount = s.freeCount := rfl
@[simp] theorem State.advanceCertificate_pending : (s.advanceCertificate).pending = s.pending := rfl
@[simp] theorem State.advanceCertificate_classes : (s.advanceCertificate).ret.classes = s.ret.classes := rfl
@[simp] theorem State.advanceCertificate_follow : (s.advanceCertificate).ret.follow = s.ret.follow := rfl
@[simp] theorem State.advanceCertificate_programs : (s.advanceCertificate).ret.programs = s.ret.programs := rfl
@[simp] theorem State.advanceCertificate_routes : (s.advanceCertificate).ret.routes = s.ret.routes := rfl
@[simp] theorem State.advanceCertificate_settings : (s.advanceCertificate).ret.settings = s.ret.settings := rfl
@[simp] theorem State.advanceCertificate_clock : (s.advanceCertificate).ret.clock = s.ret.clock := rfl
@[simp] theorem State.advanceCertificate_certificate :
    (s.advanceCertificate).ret.certificate = nextCertificate s.ret.certificate := rfl
@[simp] theorem State.advanceCertificate_tankers : (s.advanceCertificate).ret.tankers = s.ret.tankers := rfl
@[simp] theorem State.advanceCertificate_pool : (s.advanceCertificate).ret.pool = s.ret.pool := rfl
@[simp] theorem State.advanceCertificate_freeList : (s.advanceCertificate).ret.freeList = s.ret.freeList := rfl
@[simp] theorem State.advanceCertificate_bindings : (s.advanceCertificate).ret.bindings = s.ret.bindings := rfl
@[simp] theorem State.advanceCertificate_markerValid : (s.advanceCertificate).ret.markerValid = s.ret.markerValid := rfl

end

/-! ## Writing a wash unit -/

section

variable (b : Bay) (u : WashUnit)

@[simp] theorem State.setUnit_ret : (s.setUnit b u).ret = s.ret := rfl
@[simp] theorem State.setUnit_mainPower : (s.setUnit b u).mainPower = s.mainPower := rfl
@[simp] theorem State.setUnit_freeCount : (s.setUnit b u).freeCount = s.freeCount := rfl
@[simp] theorem State.setUnit_pending : (s.setUnit b u).pending = s.pending := rfl
@[simp] theorem State.setUnit_mode : (s.setUnit b u).act.mode = s.act.mode := rfl
@[simp] theorem State.setUnit_arbiter : (s.setUnit b u).act.arbiter = s.act.arbiter := rfl
@[simp] theorem State.setUnit_units : (s.setUnit b u).act.units = s.act.units.set b u := rfl
@[simp] theorem State.setUnit_slots : (s.setUnit b u).act.slots = s.act.slots := rfl
@[simp] theorem State.setUnit_scanNext : (s.setUnit b u).act.scanNext = s.act.scanNext := rfl
@[simp] theorem State.setUnit_pulses : (s.setUnit b u).act.pulses = s.act.pulses := rfl
@[simp] theorem State.setUnit_outputs : (s.setUnit b u).act.outputs = s.act.outputs := rfl
@[simp] theorem State.setUnit_lines : (s.setUnit b u).act.lines = s.act.lines := rfl
@[simp] theorem State.setUnit_holds : (s.setUnit b u).act.holds = s.act.holds := rfl
@[simp] theorem State.setUnit_notices : (s.setUnit b u).act.notices = s.act.notices := rfl
@[simp] theorem State.setUnit_fillUnit : (s.setUnit b u).act.fillUnit = s.act.fillUnit := rfl
@[simp] theorem State.setUnit_releaseTimer : (s.setUnit b u).act.releaseTimer = s.act.releaseTimer := rfl
@[simp] theorem State.setUnit_lapsesDue : (s.setUnit b u).act.lapsesDue = s.act.lapsesDue := rfl
@[simp] theorem State.setUnit_ports : (s.setUnit b u).act.ports = s.act.ports := rfl
@[simp] theorem State.setUnit_yardReset : (s.setUnit b u).act.yardReset = s.act.yardReset := rfl

end

/-! ## Writing a bay's outputs -/

section

variable (b : Bay) (o : BayOutputs)

@[simp] theorem State.setOutputs_ret : (s.setOutputs b o).ret = s.ret := rfl
@[simp] theorem State.setOutputs_mainPower : (s.setOutputs b o).mainPower = s.mainPower := rfl
@[simp] theorem State.setOutputs_freeCount : (s.setOutputs b o).freeCount = s.freeCount := rfl
@[simp] theorem State.setOutputs_pending : (s.setOutputs b o).pending = s.pending := rfl
@[simp] theorem State.setOutputs_mode : (s.setOutputs b o).act.mode = s.act.mode := rfl
@[simp] theorem State.setOutputs_arbiter : (s.setOutputs b o).act.arbiter = s.act.arbiter := rfl
@[simp] theorem State.setOutputs_units : (s.setOutputs b o).act.units = s.act.units := rfl
@[simp] theorem State.setOutputs_slots : (s.setOutputs b o).act.slots = s.act.slots := rfl
@[simp] theorem State.setOutputs_scanNext : (s.setOutputs b o).act.scanNext = s.act.scanNext := rfl
@[simp] theorem State.setOutputs_pulses : (s.setOutputs b o).act.pulses = s.act.pulses := rfl
@[simp] theorem State.setOutputs_outputs : (s.setOutputs b o).act.outputs = s.act.outputs.set b o := rfl
@[simp] theorem State.setOutputs_lines : (s.setOutputs b o).act.lines = s.act.lines := rfl
@[simp] theorem State.setOutputs_holds : (s.setOutputs b o).act.holds = s.act.holds := rfl
@[simp] theorem State.setOutputs_notices : (s.setOutputs b o).act.notices = s.act.notices := rfl
@[simp] theorem State.setOutputs_fillUnit : (s.setOutputs b o).act.fillUnit = s.act.fillUnit := rfl
@[simp] theorem State.setOutputs_releaseTimer : (s.setOutputs b o).act.releaseTimer = s.act.releaseTimer := rfl
@[simp] theorem State.setOutputs_lapsesDue : (s.setOutputs b o).act.lapsesDue = s.act.lapsesDue := rfl
@[simp] theorem State.setOutputs_ports : (s.setOutputs b o).act.ports = s.act.ports := rfl
@[simp] theorem State.setOutputs_yardReset : (s.setOutputs b o).act.yardReset = s.act.yardReset := rfl

end

/-! ## Writing the arbiter -/

section

variable (a : Arbiter)

@[simp] theorem State.setArbiter_ret : (s.setArbiter a).ret = s.ret := rfl
@[simp] theorem State.setArbiter_mainPower : (s.setArbiter a).mainPower = s.mainPower := rfl
@[simp] theorem State.setArbiter_freeCount : (s.setArbiter a).freeCount = s.freeCount := rfl
@[simp] theorem State.setArbiter_pending : (s.setArbiter a).pending = s.pending := rfl
@[simp] theorem State.setArbiter_mode : (s.setArbiter a).act.mode = s.act.mode := rfl
@[simp] theorem State.setArbiter_arbiter : (s.setArbiter a).act.arbiter = a := rfl
@[simp] theorem State.setArbiter_units : (s.setArbiter a).act.units = s.act.units := rfl
@[simp] theorem State.setArbiter_slots : (s.setArbiter a).act.slots = s.act.slots := rfl
@[simp] theorem State.setArbiter_scanNext : (s.setArbiter a).act.scanNext = s.act.scanNext := rfl
@[simp] theorem State.setArbiter_pulses : (s.setArbiter a).act.pulses = s.act.pulses := rfl
@[simp] theorem State.setArbiter_outputs : (s.setArbiter a).act.outputs = s.act.outputs := rfl
@[simp] theorem State.setArbiter_lines : (s.setArbiter a).act.lines = s.act.lines := rfl
@[simp] theorem State.setArbiter_holds : (s.setArbiter a).act.holds = s.act.holds := rfl
@[simp] theorem State.setArbiter_notices : (s.setArbiter a).act.notices = s.act.notices := rfl
@[simp] theorem State.setArbiter_fillUnit : (s.setArbiter a).act.fillUnit = s.act.fillUnit := rfl
@[simp] theorem State.setArbiter_releaseTimer : (s.setArbiter a).act.releaseTimer = s.act.releaseTimer := rfl
@[simp] theorem State.setArbiter_lapsesDue : (s.setArbiter a).act.lapsesDue = s.act.lapsesDue := rfl
@[simp] theorem State.setArbiter_ports : (s.setArbiter a).act.ports = s.act.ports := rfl
@[simp] theorem State.setArbiter_yardReset : (s.setArbiter a).act.yardReset = s.act.yardReset := rfl

end

/-! ## Writing a port's notices -/

section

variable (p : Port) (x : LineSet) (y : RefSet)

@[simp] theorem State.setNotice_ret : (s.setNotice p x y).ret = s.ret := rfl
@[simp] theorem State.setNotice_mainPower : (s.setNotice p x y).mainPower = s.mainPower := rfl
@[simp] theorem State.setNotice_freeCount : (s.setNotice p x y).freeCount = s.freeCount := rfl
@[simp] theorem State.setNotice_pending : (s.setNotice p x y).pending = s.pending := rfl
@[simp] theorem State.setNotice_mode : (s.setNotice p x y).act.mode = s.act.mode := rfl
@[simp] theorem State.setNotice_arbiter : (s.setNotice p x y).act.arbiter = s.act.arbiter := rfl
@[simp] theorem State.setNotice_units : (s.setNotice p x y).act.units = s.act.units := rfl
@[simp] theorem State.setNotice_slots : (s.setNotice p x y).act.slots = s.act.slots := rfl
@[simp] theorem State.setNotice_scanNext : (s.setNotice p x y).act.scanNext = s.act.scanNext := rfl
@[simp] theorem State.setNotice_pulses : (s.setNotice p x y).act.pulses = s.act.pulses := rfl
@[simp] theorem State.setNotice_outputs : (s.setNotice p x y).act.outputs = s.act.outputs := rfl
@[simp] theorem State.setNotice_lines : (s.setNotice p x y).act.lines = s.act.lines := rfl
@[simp] theorem State.setNotice_holds : (s.setNotice p x y).act.holds = s.act.holds := rfl
@[simp] theorem State.setNotice_notices :
    (s.setNotice p x y).act.notices = s.act.notices.set p.index (Notice.settled x y) := rfl
@[simp] theorem State.setNotice_fillUnit : (s.setNotice p x y).act.fillUnit = s.act.fillUnit := rfl
@[simp] theorem State.setNotice_releaseTimer : (s.setNotice p x y).act.releaseTimer = s.act.releaseTimer := rfl
@[simp] theorem State.setNotice_lapsesDue : (s.setNotice p x y).act.lapsesDue = s.act.lapsesDue := rfl
@[simp] theorem State.setNotice_ports : (s.setNotice p x y).act.ports = s.act.ports := rfl
@[simp] theorem State.setNotice_yardReset : (s.setNotice p x y).act.yardReset = s.act.yardReset := rfl

end

/-! ## Writing a station port -/

section

variable (p : Port) (x : PortState)

@[simp] theorem State.setPort_ret : (s.setPort p x).ret = s.ret := rfl
@[simp] theorem State.setPort_mainPower : (s.setPort p x).mainPower = s.mainPower := rfl
@[simp] theorem State.setPort_freeCount : (s.setPort p x).freeCount = s.freeCount := rfl
@[simp] theorem State.setPort_pending : (s.setPort p x).pending = s.pending := rfl
@[simp] theorem State.setPort_mode : (s.setPort p x).act.mode = s.act.mode := rfl
@[simp] theorem State.setPort_arbiter : (s.setPort p x).act.arbiter = s.act.arbiter := rfl
@[simp] theorem State.setPort_units : (s.setPort p x).act.units = s.act.units := rfl
@[simp] theorem State.setPort_slots : (s.setPort p x).act.slots = s.act.slots := rfl
@[simp] theorem State.setPort_scanNext : (s.setPort p x).act.scanNext = s.act.scanNext := rfl
@[simp] theorem State.setPort_pulses : (s.setPort p x).act.pulses = s.act.pulses := rfl
@[simp] theorem State.setPort_outputs : (s.setPort p x).act.outputs = s.act.outputs := rfl
@[simp] theorem State.setPort_lines : (s.setPort p x).act.lines = s.act.lines := rfl
@[simp] theorem State.setPort_holds : (s.setPort p x).act.holds = s.act.holds := rfl
@[simp] theorem State.setPort_notices : (s.setPort p x).act.notices = s.act.notices := rfl
@[simp] theorem State.setPort_fillUnit : (s.setPort p x).act.fillUnit = s.act.fillUnit := rfl
@[simp] theorem State.setPort_releaseTimer : (s.setPort p x).act.releaseTimer = s.act.releaseTimer := rfl
@[simp] theorem State.setPort_lapsesDue : (s.setPort p x).act.lapsesDue = s.act.lapsesDue := rfl
@[simp] theorem State.setPort_ports : (s.setPort p x).act.ports = s.act.ports.set p.index x := rfl
@[simp] theorem State.setPort_yardReset : (s.setPort p x).act.yardReset = s.act.yardReset := rfl

end

/-! ## Writing a hold set -/

section

variable (p : Position) (h : HoldSet)

@[simp] theorem State.setHold_ret : (s.setHold p h).ret = s.ret := rfl
@[simp] theorem State.setHold_mainPower : (s.setHold p h).mainPower = s.mainPower := rfl
@[simp] theorem State.setHold_freeCount : (s.setHold p h).freeCount = s.freeCount := rfl
@[simp] theorem State.setHold_pending : (s.setHold p h).pending = s.pending := rfl
@[simp] theorem State.setHold_mode : (s.setHold p h).act.mode = s.act.mode := rfl
@[simp] theorem State.setHold_arbiter : (s.setHold p h).act.arbiter = s.act.arbiter := rfl
@[simp] theorem State.setHold_units : (s.setHold p h).act.units = s.act.units := rfl
@[simp] theorem State.setHold_slots : (s.setHold p h).act.slots = s.act.slots := rfl
@[simp] theorem State.setHold_scanNext : (s.setHold p h).act.scanNext = s.act.scanNext := rfl
@[simp] theorem State.setHold_pulses : (s.setHold p h).act.pulses = s.act.pulses := rfl
@[simp] theorem State.setHold_outputs : (s.setHold p h).act.outputs = s.act.outputs := rfl
@[simp] theorem State.setHold_lines : (s.setHold p h).act.lines = s.act.lines := rfl
@[simp] theorem State.setHold_holds : (s.setHold p h).act.holds = s.act.holds.set p.index h := rfl
@[simp] theorem State.setHold_notices : (s.setHold p h).act.notices = s.act.notices := rfl
@[simp] theorem State.setHold_fillUnit : (s.setHold p h).act.fillUnit = s.act.fillUnit := rfl
@[simp] theorem State.setHold_releaseTimer : (s.setHold p h).act.releaseTimer = s.act.releaseTimer := rfl
@[simp] theorem State.setHold_lapsesDue : (s.setHold p h).act.lapsesDue = s.act.lapsesDue := rfl
@[simp] theorem State.setHold_ports : (s.setHold p h).act.ports = s.act.ports := rfl
@[simp] theorem State.setHold_yardReset : (s.setHold p h).act.yardReset = s.act.yardReset := rfl

end

/-! ## Writing a line filter -/

section

variable (l : Line) (f : Filter)

@[simp] theorem State.setLine_ret : (s.setLine l f).ret = s.ret := rfl
@[simp] theorem State.setLine_mainPower : (s.setLine l f).mainPower = s.mainPower := rfl
@[simp] theorem State.setLine_freeCount : (s.setLine l f).freeCount = s.freeCount := rfl
@[simp] theorem State.setLine_pending : (s.setLine l f).pending = s.pending := rfl
@[simp] theorem State.setLine_mode : (s.setLine l f).act.mode = s.act.mode := rfl
@[simp] theorem State.setLine_arbiter : (s.setLine l f).act.arbiter = s.act.arbiter := rfl
@[simp] theorem State.setLine_units : (s.setLine l f).act.units = s.act.units := rfl
@[simp] theorem State.setLine_slots : (s.setLine l f).act.slots = s.act.slots := rfl
@[simp] theorem State.setLine_scanNext : (s.setLine l f).act.scanNext = s.act.scanNext := rfl
@[simp] theorem State.setLine_pulses : (s.setLine l f).act.pulses = s.act.pulses := rfl
@[simp] theorem State.setLine_outputs : (s.setLine l f).act.outputs = s.act.outputs := rfl
@[simp] theorem State.setLine_lines : (s.setLine l f).act.lines = s.act.lines.set l f := rfl
@[simp] theorem State.setLine_holds : (s.setLine l f).act.holds = s.act.holds := rfl
@[simp] theorem State.setLine_notices : (s.setLine l f).act.notices = s.act.notices := rfl
@[simp] theorem State.setLine_fillUnit : (s.setLine l f).act.fillUnit = s.act.fillUnit := rfl
@[simp] theorem State.setLine_releaseTimer : (s.setLine l f).act.releaseTimer = s.act.releaseTimer := rfl
@[simp] theorem State.setLine_lapsesDue : (s.setLine l f).act.lapsesDue = s.act.lapsesDue := rfl
@[simp] theorem State.setLine_ports : (s.setLine l f).act.ports = s.act.ports := rfl
@[simp] theorem State.setLine_yardReset : (s.setLine l f).act.yardReset = s.act.yardReset := rfl

end

/-! ## Writing a pulse channel -/

section

variable (m : Position) (c : PulseChannel)

@[simp] theorem State.setPulse_ret : (s.setPulse m c).ret = s.ret := rfl
@[simp] theorem State.setPulse_mainPower : (s.setPulse m c).mainPower = s.mainPower := rfl
@[simp] theorem State.setPulse_freeCount : (s.setPulse m c).freeCount = s.freeCount := rfl
@[simp] theorem State.setPulse_pending : (s.setPulse m c).pending = s.pending := rfl
@[simp] theorem State.setPulse_mode : (s.setPulse m c).act.mode = s.act.mode := rfl
@[simp] theorem State.setPulse_arbiter : (s.setPulse m c).act.arbiter = s.act.arbiter := rfl
@[simp] theorem State.setPulse_units : (s.setPulse m c).act.units = s.act.units := rfl
@[simp] theorem State.setPulse_slots : (s.setPulse m c).act.slots = s.act.slots := rfl
@[simp] theorem State.setPulse_scanNext : (s.setPulse m c).act.scanNext = s.act.scanNext := rfl
@[simp] theorem State.setPulse_pulses : (s.setPulse m c).act.pulses = s.act.pulses.set m.index c := rfl
@[simp] theorem State.setPulse_outputs : (s.setPulse m c).act.outputs = s.act.outputs := rfl
@[simp] theorem State.setPulse_lines : (s.setPulse m c).act.lines = s.act.lines := rfl
@[simp] theorem State.setPulse_holds : (s.setPulse m c).act.holds = s.act.holds := rfl
@[simp] theorem State.setPulse_notices : (s.setPulse m c).act.notices = s.act.notices := rfl
@[simp] theorem State.setPulse_fillUnit : (s.setPulse m c).act.fillUnit = s.act.fillUnit := rfl
@[simp] theorem State.setPulse_releaseTimer : (s.setPulse m c).act.releaseTimer = s.act.releaseTimer := rfl
@[simp] theorem State.setPulse_lapsesDue : (s.setPulse m c).act.lapsesDue = s.act.lapsesDue := rfl
@[simp] theorem State.setPulse_ports : (s.setPulse m c).act.ports = s.act.ports := rfl
@[simp] theorem State.setPulse_yardReset : (s.setPulse m c).act.yardReset = s.act.yardReset := rfl

end

/-! ## Writing a sample slot -/

section

variable (ch : Probe) (x : SampleSlot)

@[simp] theorem State.setSlot_ret : (s.setSlot ch x).ret = s.ret := rfl
@[simp] theorem State.setSlot_mainPower : (s.setSlot ch x).mainPower = s.mainPower := rfl
@[simp] theorem State.setSlot_freeCount : (s.setSlot ch x).freeCount = s.freeCount := rfl
@[simp] theorem State.setSlot_pending : (s.setSlot ch x).pending = s.pending := rfl
@[simp] theorem State.setSlot_mode : (s.setSlot ch x).act.mode = s.act.mode := rfl
@[simp] theorem State.setSlot_arbiter : (s.setSlot ch x).act.arbiter = s.act.arbiter := rfl
@[simp] theorem State.setSlot_units : (s.setSlot ch x).act.units = s.act.units := rfl
@[simp] theorem State.setSlot_slots : (s.setSlot ch x).act.slots = s.act.slots.set ch x := rfl
@[simp] theorem State.setSlot_scanNext : (s.setSlot ch x).act.scanNext = s.act.scanNext := rfl
@[simp] theorem State.setSlot_pulses : (s.setSlot ch x).act.pulses = s.act.pulses := rfl
@[simp] theorem State.setSlot_outputs : (s.setSlot ch x).act.outputs = s.act.outputs := rfl
@[simp] theorem State.setSlot_lines : (s.setSlot ch x).act.lines = s.act.lines := rfl
@[simp] theorem State.setSlot_holds : (s.setSlot ch x).act.holds = s.act.holds := rfl
@[simp] theorem State.setSlot_notices : (s.setSlot ch x).act.notices = s.act.notices := rfl
@[simp] theorem State.setSlot_fillUnit : (s.setSlot ch x).act.fillUnit = s.act.fillUnit := rfl
@[simp] theorem State.setSlot_releaseTimer : (s.setSlot ch x).act.releaseTimer = s.act.releaseTimer := rfl
@[simp] theorem State.setSlot_lapsesDue : (s.setSlot ch x).act.lapsesDue = s.act.lapsesDue := rfl
@[simp] theorem State.setSlot_ports : (s.setSlot ch x).act.ports = s.act.ports := rfl
@[simp] theorem State.setSlot_yardReset : (s.setSlot ch x).act.yardReset = s.act.yardReset := rfl

end

/-! ## Writing the rack fill unit -/

section

variable (u : FillUnit)

@[simp] theorem State.setFillUnit_ret : (s.setFillUnit u).ret = s.ret := rfl
@[simp] theorem State.setFillUnit_mainPower : (s.setFillUnit u).mainPower = s.mainPower := rfl
@[simp] theorem State.setFillUnit_freeCount : (s.setFillUnit u).freeCount = s.freeCount := rfl
@[simp] theorem State.setFillUnit_pending : (s.setFillUnit u).pending = s.pending := rfl
@[simp] theorem State.setFillUnit_mode : (s.setFillUnit u).act.mode = s.act.mode := rfl
@[simp] theorem State.setFillUnit_arbiter : (s.setFillUnit u).act.arbiter = s.act.arbiter := rfl
@[simp] theorem State.setFillUnit_units : (s.setFillUnit u).act.units = s.act.units := rfl
@[simp] theorem State.setFillUnit_slots : (s.setFillUnit u).act.slots = s.act.slots := rfl
@[simp] theorem State.setFillUnit_scanNext : (s.setFillUnit u).act.scanNext = s.act.scanNext := rfl
@[simp] theorem State.setFillUnit_pulses : (s.setFillUnit u).act.pulses = s.act.pulses := rfl
@[simp] theorem State.setFillUnit_outputs : (s.setFillUnit u).act.outputs = s.act.outputs := rfl
@[simp] theorem State.setFillUnit_lines : (s.setFillUnit u).act.lines = s.act.lines := rfl
@[simp] theorem State.setFillUnit_holds : (s.setFillUnit u).act.holds = s.act.holds := rfl
@[simp] theorem State.setFillUnit_notices : (s.setFillUnit u).act.notices = s.act.notices := rfl
@[simp] theorem State.setFillUnit_fillUnit : (s.setFillUnit u).act.fillUnit = u := rfl
@[simp] theorem State.setFillUnit_releaseTimer : (s.setFillUnit u).act.releaseTimer = s.act.releaseTimer := rfl
@[simp] theorem State.setFillUnit_lapsesDue : (s.setFillUnit u).act.lapsesDue = s.act.lapsesDue := rfl
@[simp] theorem State.setFillUnit_ports : (s.setFillUnit u).act.ports = s.act.ports := rfl
@[simp] theorem State.setFillUnit_yardReset : (s.setFillUnit u).act.yardReset = s.act.yardReset := rfl

end

end Sys2Proof.Machine
end

