-- ==== Sys2Proof/Laws/Ops.lean ====
section
/-! SUPPORT. One lemma for each shared operation, saying once what it can do; the proofs cite these and do not unfold
the operations. First the tables, then the notice store's marks, the transition requests, naming, and the moves the
wash cycle's commands share. -/

namespace Sys2Proof.Machine

/-! ## Tables -/

/-- Two tables with the same entries are the same. -/
theorem table_ext {α : Type} {n : Nat} {v w : Vector α n} (h : ∀ i : Fin n, v[i] = w[i]) : v = w := by
  ext i hi
  exact h ⟨i, hi⟩

/-- An entry of a table made by a function. -/
theorem table_ofFn {α : Type} {n : Nat} (f : Fin n → α) (v : Vector α n) (h : ∀ i : Fin n, v[i] = f i) :
    v = Vector.ofFn f := table_ext (fun i => by simpa using h i)

/-- Reading a table after one entry is written. -/
theorem table_set {α : Type} {n : Nat} (v : Vector α n) (i j : Fin n) (x : α) :
    (v.set i x)[j] = if j = i then x else v[j] := by
  by_cases h : j = i
  · subst h; simp
  · have : ¬ i.val = j.val := fun e => h (Fin.ext e.symm)
    simp [h, this]

/-- Writing an entry with what it holds changes nothing. -/
theorem table_set_self {α : Type} {n : Nat} (v : Vector α n) (i : Fin n) : v.set i v[i] = v :=
  table_ext (fun j => by rw [table_set]; split <;> simp_all)

/-- `mapTable` maps. -/
theorem mapTable_eq_map {α β : Type} {n : Nat} (f : α → β) (v : Vector α n) : mapTable f v = v.map f := by
  ext i hi
  simp [mapTable]

/-- A set has a member exactly when one of its flags is set. -/
theorem anyOf_iff {n : Nat} (v : Vector Bool n) : anyOf v = true ↔ ∃ i : Fin n, v[i] = true := by
  simp [anyOf, Fin.exists_iff, Vector.any_eq_true]

/-- The members of a set, each once and in ascending order. -/
theorem mem_membersOf {n : Nat} (v : Vector Bool n) (i : Fin n) : i ∈ membersOf v ↔ v[i] = true := by
  simp [membersOf]

/-- The union's common part. -/
theorem bothOf_get {n : Nat} (v w : Vector Bool n) (i : Fin n) : (bothOf v w)[i] = (v[i] && w[i]) := by
  simp [bothOf]

/-- Whether any record in use satisfies a test. -/
theorem State.anyRecord_iff (s : State) (f : Compartment → Bool) :
    s.anyRecord f = true ↔ ∃ r : RecordRef, ∃ c, s.ret.pool[r] = some c ∧ f c = true := by
  simp only [State.anyRecord, List.any_eq_true, Vector.mem_toList_iff, Vector.mem_iff_getElem]
  constructor
  · rintro ⟨o, ⟨i, hi, rfl⟩, h⟩
    cases hq : s.ret.pool[i] with
    | none => simp [hq] at h
    | some c => exact ⟨⟨i, hi⟩, c, hq, by simpa [hq] using h⟩
  · rintro ⟨r, c, hc, h⟩
    exact ⟨some c, ⟨r.val, r.isLt, hc⟩, h⟩

/-! ## Reading after writing -/

theorem State.record_setRecord (s : State) (r r' : RecordRef) (c : Option Compartment) :
    (s.setRecord r c).record r' = if r' = r then c else s.record r' := table_set _ _ _ _

/-- The places of the ports are distinct. -/
theorem Port.index_injective (p q : Port) (h : p.index = q.index) : p = q := by
  cases p <;> cases q <;> simp_all [Port.index, Fin.ext_iff] <;> omega

/-- The places of the positions are distinct. -/
theorem Position.index_injective (p q : Position) (h : p.index = q.index) : p = q := by
  cases p <;> cases q <;> simp_all [Position.index, Fin.ext_iff] <;> omega

theorem State.port_setPort (s : State) (p q : Port) (x : PortState) :
    (s.setPort p x).port q = if q = p then x else s.port q := by
  have := table_set s.act.ports p.index q.index x
  by_cases h : q = p
  · subst h; simp [State.port]
  · have hi : ¬ q.index = p.index := fun e => h (Port.index_injective _ _ e)
    simpa [State.port, h, hi] using this

theorem State.hold_setHold (s : State) (p q : Position) (x : HoldSet) :
    (s.setHold p x).hold q = if q = p then x else s.hold q := by
  have := table_set s.act.holds p.index q.index x
  by_cases h : q = p
  · subst h; simp [State.hold]
  · have hi : ¬ q.index = p.index := fun e => h (Position.index_injective _ _ e)
    simpa [State.hold, h, hi] using this

theorem State.notice_setNotice (s : State) (p q : Port) (lines : LineSet) (changed : RefSet) :
    (s.setNotice p lines changed).notice q = if q = p then Notice.settled lines changed else s.notice q := by
  have := table_set s.act.notices p.index q.index (Notice.settled lines changed)
  by_cases h : q = p
  · subst h; simp [State.notice]
  · have hi : ¬ q.index = p.index := fun e => h (Port.index_injective _ _ e)
    simpa [State.notice, h, hi] using this

/-- Writing a port with what it holds changes nothing. -/
theorem State.setPort_self (s : State) (p : Port) : s.setPort p (s.port p) = s := by
  have : s.act.ports.set p.index (s.port p) = s.act.ports := table_set_self _ _
  simp only [State.setPort, this]

/-- A port written twice holds the second. -/
theorem State.setPort_setPort (s : State) (p : Port) (x y : PortState) :
    (s.setPort p x).setPort p y = s.setPort p y := by
  simp [State.setPort]

/-! ## The notice store -/

/-- A hand-over changes the notices and nothing else (R157). -/
theorem State.notify_frame (s : State) (r : RecordRef) :
    ∃ v, s.notify r = { s with act := { s.act with notices := v } } := by
  unfold State.notify
  split
  · exact ⟨_, rfl⟩
  · exact ⟨_, rfl⟩

/-- A record written as a taken change of state: the pool's entry and the notices, and nothing else (R8). -/
theorem State.changeRecord_frame (s : State) (r : RecordRef) (c : Compartment) :
    ∃ v, s.changeRecord r c =
      { s with ret := { s.ret with pool := s.ret.pool.set r (some c) }, act := { s.act with notices := v } } := by
  obtain ⟨v, h⟩ := (s.setRecord r (some c)).notify_frame r
  exact ⟨v, by rw [State.changeRecord, h]; rfl⟩

/-- A transition request: taken in an expected state, and otherwise nothing changes (R7). -/
theorem State.transition_cases (s : State) (r : RecordRef) (expected : List CState) (f : Compartment → Compartment) :
    (∃ c, s.record r = some c ∧ c.state ∈ expected ∧ s.transition r expected f = s.changeRecord r (f c))
      ∨ ((∀ c, s.record r = some c → c.state ∉ expected) ∧ s.transition r expected f = s) := by
  unfold State.transition
  cases h : s.record r with
  | none => exact .inr ⟨(by intro c hc; cases hc), rfl⟩
  | some c =>
    by_cases he : c.state ∈ expected
    · exact .inl ⟨c, rfl, he, by simp [he]⟩
    · exact .inr ⟨fun c' hc => by cases hc; exact he, by simp [he]⟩

/-! ## Naming -/

/-- The compartment of a number of a tanker: its reference stands at the number's place, and its record in the pool
(R16). -/
theorem State.compartmentOf_some {s : State} {i : Slot} {t : Tanker} {n : Nat} {x : Named} :
    s.compartmentOf i t n = some x ↔
      1 ≤ n ∧ x.slot = i ∧ t.compartments[n - 1]? = some x.ref ∧ s.ret.pool[x.ref] = some x.record := by
  unfold State.compartmentOf
  by_cases h : n = 0
  · simp [h]
  · cases hq : t.compartments[n - 1]? with
    | none => simp [h]
    | some r =>
      cases x with
      | mk slot ref record =>
        cases hc : s.ret.pool[r] with
        | none =>
          have hr : s.record r = none := hc
          simp only [h, if_false, hr, Option.map_none]
          constructor
          · intro e; cases e
          · rintro ⟨_, _, e, e'⟩; cases e; rw [hc] at e'; cases e'
        | some c =>
          have hr : s.record r = some c := hc
          simp only [h, if_false, hr, Option.map_some]
          constructor
          · intro e; cases e; exact ⟨by omega, rfl, rfl, hc⟩
          · rintro ⟨_, e0, e, e'⟩
            cases e; rw [hc] at e'; cases e'; simp_all

/-! ## The arbiter -/

@[simp] theorem Arbiter.decided_capacity (a before : Arbiter) : (a.decided before).capacity = a.capacity := by
  unfold Arbiter.decided; split <;> rfl
@[simp] theorem Arbiter.decided_granted (a before : Arbiter) : (a.decided before).granted = a.granted := by
  unfold Arbiter.decided; split <;> rfl
@[simp] theorem Arbiter.decided_queue (a before : Arbiter) : (a.decided before).queue = a.queue := by
  unfold Arbiter.decided; split <;> rfl
@[simp] theorem Arbiter.decided_lowPressure (a before : Arbiter) : (a.decided before).lowPressure = a.lowPressure := by
  unfold Arbiter.decided; split <;> rfl
@[simp] theorem Arbiter.decided_blockLines (a before : Arbiter) : (a.decided before).blockLines = a.blockLines := by
  unfold Arbiter.decided; split <;> rfl
@[simp] theorem Arbiter.decided_recovery (a before : Arbiter) : (a.decided before).recovery = a.recovery := by
  unfold Arbiter.decided; split <;> rfl

/-- An event that changed nothing at the arbiter begins no decision that was not in progress (R71). -/
theorem Arbiter.decided_self (a : Arbiter) : a.decided a = a := by
  unfold Arbiter.decided
  split
  next h => rw [h.2]; cases a; simp_all
  · rfl

/-- A block cause is set (R76). -/
theorem Arbiter.blocked_iff (a : Arbiter) :
    a.blocked = true ↔ a.lowPressure = true ∨ (∃ l : Line, a.blockLines[l] = true) ∨ a.recovery = true := by
  simp only [Arbiter.blocked, Arbiter.blockGrants, Bool.or_eq_true, anyOf_iff, or_assoc]

/-- What the scan picks (R71, R72). -/
theorem Arbiter.pick_iff (a : Arbiter) (e : QueueEntry) (backfill : Bool) :
    a.pick = some (e, backfill) ↔ a.ScanPicks e backfill := by
  have room : a.capacity - a.granted = a.room := rfl
  unfold Arbiter.ScanPicks
  rw [← Arbiter.blocked_iff, room]
  unfold Arbiter.pick
  by_cases hb : a.blocked = true
  · simp [hb]
  · rw [if_neg hb]
    cases hq : a.queue with
    | nil => simp
    | cons head later =>
      by_cases h1 : head.shares ≤ a.room
      · have : ¬ a.room < head.shares := by omega
        simp only [if_pos h1, Option.some.injEq, Prod.mk.injEq]
        constructor
        · rintro ⟨rfl, rfl⟩; exact ⟨hb, head, later, rfl, .inl ⟨h1, rfl, rfl⟩⟩
        · rintro ⟨-, _, _, e, h⟩; cases e
          rcases h with ⟨-, rfl, rfl⟩ | ⟨h, -⟩
          · exact ⟨rfl, rfl⟩
          · omega
      · by_cases h2 : head.passCount < 3
        · simp only [if_neg h1, if_pos h2, Option.map_eq_some_iff, Prod.mk.injEq]
          constructor
          · rintro ⟨x, hx, rfl, rfl⟩
            obtain ⟨fits, pre, post, rfl, short⟩ := List.find?_eq_some_iff_append.mp hx
            exact ⟨hb, head, _, rfl, .inr ⟨by omega, h2, rfl, pre, post, rfl, by simpa using fits,
              fun y hy => by simpa using short y hy⟩⟩
          · rintro ⟨-, _, _, e', h⟩; cases e'
            rcases h with ⟨h, -⟩ | ⟨-, -, rfl, pre, post, rfl, fits, short⟩
            · omega
            · exact ⟨e, List.find?_eq_some_iff_append.mpr
                ⟨by simpa using fits, pre, post, rfl, fun y hy => by simpa using short y hy⟩, rfl, rfl⟩
        · simp only [if_neg h1, if_neg h2]
          constructor
          · intro h; cases h
          · rintro ⟨-, _, _, e', h⟩; cases e'
            rcases h with ⟨h, -⟩ | ⟨-, h, -⟩ <;> omega

/-! ## The wash cycle's shared moves -/

/-- The bay that holds a record alone is the one found for it (R42, R43). -/
theorem State.OnlyUnit.unitOf {s : State} {b : Bay} {r : RecordRef} (h : s.OnlyUnit b r) : s.unitOf r = some b := by
  have hp : ((s.act.units[b]).active == some r) = true := by simpa using h.1
  unfold State.unitOf
  rw [List.find?_eq_some_iff_append]
  refine ⟨hp, (List.finRange 4).take b.val, (List.finRange 4).drop (b.val + 1), ?_, ?_⟩
  · have e : ∀ b : Fin 4, List.finRange 4
        = (List.finRange 4).take b.val ++ b :: (List.finRange 4).drop (b.val + 1) := by
      decide
    exact e b
  · intro b' hb
    have hne : b' ≠ b := by
      rintro rfl
      revert hb; clear hp h; revert b'; decide
    simpa using h.2 b' hne

/-- A wash ends in DIRTY (R55). -/
theorem State.endWash_eq (s : State) (b : Bay) (r : RecordRef) (c : Compartment) (n : Note) :
    s.endWash b r c n = s.endedInDirty b r c n := by
  have shares : c.shares = (c.progress.map (·.sharesHeld)).getD 0 := by
    unfold Compartment.shares; cases c.progress <;> rfl
  unfold State.endWash State.endedInDirty
  congr 1
  cases hq : c.state <;>
    simp [State.releaseLoop, hq, State.leaveRunning, State.setArbiter, State.setOutputs, State.setUnit, shares,
      Arbiter.left, State.outputsLeft, Arbiter.returnShares, Arbiter.leave, BayOutputs.parked, removeEntry,
      WashUnit.idle, WashUnit.start, Arbiter.decided_self]

/-- A compartment enters QUEUED (R46, R52, R62, R69). -/
theorem State.enterQueued_eq (s : State) (b : Bay) (r : RecordRef) (c : Compartment) (p : Progress) (ph : Phase)
    (reEntry : Option Nat) (h : reEntry = if 2 ≤ p.phaseIndex then some s.ret.reEntryLimit else none) :
    s.enterQueued b r c p ph = s.queuedWith b r c p ph reEntry := by
  have e : s.act.arbiter.entryFor b r ph.shares
      = ⟨b, r, min ph.shares s.act.arbiter.capacity, decide (s.act.arbiter.capacity < ph.shares), 0⟩ := by
    unfold Arbiter.entryFor
    split <;> simp <;> omega
  simp only [State.enterQueued, State.queuedWith, e, Compartment.enterQueued, WashUnit.enterQueued, Arbiter.join,
    State.setArbiter, State.setUnit, h]

/-- A phase completes (R49, R50, R51). -/
theorem State.completePhase_eq (s : State) (b : Bay) (r : RecordRef) (c : Compartment) (p : Progress) (ph : Phase)
    (d : Demand) (hd : c.demand = some d) : s.completePhase b r c p ph = s.phaseCompleted b r c p ph d := by
  simp only [State.completePhase, State.phaseCompleted]
  split_ifs <;>
    simp_all [State.leaveRunning, State.setArbiter, State.setOutputs, State.setUnit, WashUnit.idle, WashUnit.ended,
      WashUnit.start, Compartment.washed, Compartment.handedOver, Arbiter.returnShares, BayOutputs.parked]

/-- The completion test (R94). -/
theorem phaseMet_iff (d : Demand) (ph : Phase) (p : Progress) :
    phaseMet (some d) ph p = true ↔ CompletionTest d ph p := by
  unfold phaseMet CompletionTest effectiveDemand endpointMet
  cases ph.endpoint <;> cases d <;> simp

/-- A line is active when its accepted level is its polarity's active one (R147). -/
theorem State.lineActive_iff (s : State) (l : Line) :
    s.lineActive l = true ↔
      (s.act.lines[l]).accepted = if (s.ret.routes[l]).polarity = .activeLow then Level.low else Level.high := by
  simp only [State.lineActive]
  cases (s.ret.routes[l]).polarity <;> cases (s.act.lines[l]).accepted <;> decide

/-- A record at a restart (R20). -/
theorem Compartment.mapped_eq (c : Compartment) : c.mapped = c.afterRestart := by
  unfold Compartment.mapped Compartment.afterRestart
  cases h : c.state <;> simp [CState.isWash]
  cases c.fill <;> simp [Compartment.ladenWith, pushHistory]

end Sys2Proof.Machine
end

