-- ==== Sys2Proof/WellFormed.lean ====
section
/-! DEFINITION. Which commands are well formed.

A request frame's length byte is at most 240 (R162), so a complete frame's body has at most 240 bytes. Every other
operand is kept in its range by its type. -/

namespace Sys2Proof

/-- The body of a request command; an event has none. -/
def Instr.body : Instr → List Byte
  | .status _ _ b | .events _ _ b | .ackLine _ _ b | .resume _ _ b | .readTanker _ _ b => b
  | .readCompartment _ _ b | .admitTanker _ _ b | .depart _ _ b | .setIntent _ _ b | .emptied _ _ b => b
  | .voidRelease _ _ b | .cancelWash _ _ b | .readLoop _ _ b | .readInstruments _ _ b => b
  | .dock _ _ b | .undock _ _ b | .startWash _ _ b | .phaseGo _ _ b | .abortWash _ _ b => b
  | .inspectPass _ _ b | .inspectFail _ _ b | .fillStart _ _ b | .fillEnd _ _ b | .fillAbort _ _ b => b
  | .writeClass _ _ b | .writeProgram _ _ b | .writeFollow _ _ b | .writeRoute _ _ b | .writeSetting _ _ b => b
  | .readClass _ _ b | .readProgram _ _ b | .readFollow _ _ b | .readRoute _ _ b | .readSetting _ _ b => b
  | .setClock _ _ b | .openYard _ _ b | .yardReset _ _ b => b
  | .yardResetEffect | .coldStart | .powerReturn | .mainPowerLoss => []
  | .requestByteReceived _ _ _ | .interByteTimeout _ | .answerSendComplete _ => []
  | .scanConversion _ _ | .pulseSample _ _ | .lineSample _ _ | .grant => []
  | .accountingIntervalClose _ | .phaseTimerTick _ | .phaseTimerExpiry _ | .handoverTimerExpiry _ => []
  | .reEntryTimerExpiry _ | .holdTimerExpiry _ | .washHold _ | .washResume _ | .fillStoppedMark => []
  | .sweepTick _ | .releaseTimerCheck | .releaseLapse _ | .yardClockSecond | .backupSupplyLoss | .ageMillisecond => []

/-- A command is well formed when its body fits a frame (R162: the length byte is at most 240). -/
def Instr.wellFormed (i : Instr) : Bool := i.body.length ≤ 240

end Sys2Proof
end

