-- ==== Sys2Proof/Laws/PerInstr.lean ====
section
/-! SUPPORT. The family RequestFrame, one lemma a command: a request command is the complete frame its kind, port, tag
and body spell, with the body that well-formedness measures, and an event is no request and carries no body. -/

namespace Sys2Proof.Laws.RequestFrame

/-- What the family says of a command. -/
def Statement (i : Instr) : Prop :=
  match i.request? with
  | some q => requestOf q.kind q.port q.tag q.body = i ∧ q.body = i.body
  | none => i.body = [] ∧ ∀ k p tag body, requestOf k p tag body ≠ i

theorem status (p : Port) (tag : Byte) (body : List Byte) : Statement (.status p tag body) := ⟨rfl, rfl⟩

theorem events (p : Port) (tag : Byte) (body : List Byte) : Statement (.events p tag body) := ⟨rfl, rfl⟩

theorem ackLine (p : Port) (tag : Byte) (body : List Byte) : Statement (.ackLine p tag body) := ⟨rfl, rfl⟩

theorem resume (p : Port) (tag : Byte) (body : List Byte) : Statement (.resume p tag body) := ⟨rfl, rfl⟩

theorem readTanker (p : Port) (tag : Byte) (body : List Byte) : Statement (.readTanker p tag body) := ⟨rfl, rfl⟩

theorem readCompartment (p : Port) (tag : Byte) (body : List Byte) : Statement (.readCompartment p tag body) :=
  ⟨rfl, rfl⟩

theorem admitTanker (p : Port) (tag : Byte) (body : List Byte) : Statement (.admitTanker p tag body) := ⟨rfl, rfl⟩

theorem depart (p : Port) (tag : Byte) (body : List Byte) : Statement (.depart p tag body) := ⟨rfl, rfl⟩

theorem setIntent (p : Port) (tag : Byte) (body : List Byte) : Statement (.setIntent p tag body) := ⟨rfl, rfl⟩

theorem emptied (p : Port) (tag : Byte) (body : List Byte) : Statement (.emptied p tag body) := ⟨rfl, rfl⟩

theorem voidRelease (p : Port) (tag : Byte) (body : List Byte) : Statement (.voidRelease p tag body) := ⟨rfl, rfl⟩

theorem cancelWash (p : Port) (tag : Byte) (body : List Byte) : Statement (.cancelWash p tag body) := ⟨rfl, rfl⟩

theorem readLoop (p : Port) (tag : Byte) (body : List Byte) : Statement (.readLoop p tag body) := ⟨rfl, rfl⟩

theorem readInstruments (p : Port) (tag : Byte) (body : List Byte) : Statement (.readInstruments p tag body) :=
  ⟨rfl, rfl⟩

theorem dock (p : Port) (tag : Byte) (body : List Byte) : Statement (.dock p tag body) := ⟨rfl, rfl⟩

theorem undock (p : Port) (tag : Byte) (body : List Byte) : Statement (.undock p tag body) := ⟨rfl, rfl⟩

theorem startWash (p : Port) (tag : Byte) (body : List Byte) : Statement (.startWash p tag body) := ⟨rfl, rfl⟩

theorem phaseGo (p : Port) (tag : Byte) (body : List Byte) : Statement (.phaseGo p tag body) := ⟨rfl, rfl⟩

theorem abortWash (p : Port) (tag : Byte) (body : List Byte) : Statement (.abortWash p tag body) := ⟨rfl, rfl⟩

theorem inspectPass (p : Port) (tag : Byte) (body : List Byte) : Statement (.inspectPass p tag body) := ⟨rfl, rfl⟩

theorem inspectFail (p : Port) (tag : Byte) (body : List Byte) : Statement (.inspectFail p tag body) := ⟨rfl, rfl⟩

theorem fillStart (p : Port) (tag : Byte) (body : List Byte) : Statement (.fillStart p tag body) := ⟨rfl, rfl⟩

theorem fillEnd (p : Port) (tag : Byte) (body : List Byte) : Statement (.fillEnd p tag body) := ⟨rfl, rfl⟩

theorem fillAbort (p : Port) (tag : Byte) (body : List Byte) : Statement (.fillAbort p tag body) := ⟨rfl, rfl⟩

theorem writeClass (p : Port) (tag : Byte) (body : List Byte) : Statement (.writeClass p tag body) := ⟨rfl, rfl⟩

theorem writeProgram (p : Port) (tag : Byte) (body : List Byte) : Statement (.writeProgram p tag body) := ⟨rfl, rfl⟩

theorem writeFollow (p : Port) (tag : Byte) (body : List Byte) : Statement (.writeFollow p tag body) := ⟨rfl, rfl⟩

theorem writeRoute (p : Port) (tag : Byte) (body : List Byte) : Statement (.writeRoute p tag body) := ⟨rfl, rfl⟩

theorem writeSetting (p : Port) (tag : Byte) (body : List Byte) : Statement (.writeSetting p tag body) := ⟨rfl, rfl⟩

theorem readClass (p : Port) (tag : Byte) (body : List Byte) : Statement (.readClass p tag body) := ⟨rfl, rfl⟩

theorem readProgram (p : Port) (tag : Byte) (body : List Byte) : Statement (.readProgram p tag body) := ⟨rfl, rfl⟩

theorem readFollow (p : Port) (tag : Byte) (body : List Byte) : Statement (.readFollow p tag body) := ⟨rfl, rfl⟩

theorem readRoute (p : Port) (tag : Byte) (body : List Byte) : Statement (.readRoute p tag body) := ⟨rfl, rfl⟩

theorem readSetting (p : Port) (tag : Byte) (body : List Byte) : Statement (.readSetting p tag body) := ⟨rfl, rfl⟩

theorem setClock (p : Port) (tag : Byte) (body : List Byte) : Statement (.setClock p tag body) := ⟨rfl, rfl⟩

theorem openYard (p : Port) (tag : Byte) (body : List Byte) : Statement (.openYard p tag body) := ⟨rfl, rfl⟩

theorem yardReset (p : Port) (tag : Byte) (body : List Byte) : Statement (.yardReset p tag body) := ⟨rfl, rfl⟩

theorem yardResetEffect : Statement .yardResetEffect :=
  ⟨rfl, fun k _ _ _ h => by cases k <;> cases h⟩

theorem coldStart : Statement .coldStart :=
  ⟨rfl, fun k _ _ _ h => by cases k <;> cases h⟩

theorem powerReturn : Statement .powerReturn :=
  ⟨rfl, fun k _ _ _ h => by cases k <;> cases h⟩

theorem mainPowerLoss : Statement .mainPowerLoss :=
  ⟨rfl, fun k _ _ _ h => by cases k <;> cases h⟩

theorem requestByteReceived (p : Port) (b : Byte) (e : Bool) : Statement (.requestByteReceived p b e) :=
  ⟨rfl, fun k _ _ _ h => by cases k <;> cases h⟩

theorem interByteTimeout (p : Port) : Statement (.interByteTimeout p) :=
  ⟨rfl, fun k _ _ _ h => by cases k <;> cases h⟩

theorem answerSendComplete (p : Port) : Statement (.answerSendComplete p) :=
  ⟨rfl, fun k _ _ _ h => by cases k <;> cases h⟩

theorem scanConversion (ch : Probe) (code : Code) : Statement (.scanConversion ch code) :=
  ⟨rfl, fun k _ _ _ h => by cases k <;> cases h⟩

theorem pulseSample (m : Position) (x : Level) : Statement (.pulseSample m x) :=
  ⟨rfl, fun k _ _ _ h => by cases k <;> cases h⟩

theorem lineSample (l : Line) (x : Level) : Statement (.lineSample l x) :=
  ⟨rfl, fun k _ _ _ h => by cases k <;> cases h⟩

theorem grant : Statement .grant :=
  ⟨rfl, fun k _ _ _ h => by cases k <;> cases h⟩

theorem accountingIntervalClose (b : Bay) : Statement (.accountingIntervalClose b) :=
  ⟨rfl, fun k _ _ _ h => by cases k <;> cases h⟩

theorem phaseTimerTick (b : Bay) : Statement (.phaseTimerTick b) :=
  ⟨rfl, fun k _ _ _ h => by cases k <;> cases h⟩

theorem phaseTimerExpiry (b : Bay) : Statement (.phaseTimerExpiry b) :=
  ⟨rfl, fun k _ _ _ h => by cases k <;> cases h⟩

theorem handoverTimerExpiry (b : Bay) : Statement (.handoverTimerExpiry b) :=
  ⟨rfl, fun k _ _ _ h => by cases k <;> cases h⟩

theorem reEntryTimerExpiry (b : Bay) : Statement (.reEntryTimerExpiry b) :=
  ⟨rfl, fun k _ _ _ h => by cases k <;> cases h⟩

theorem holdTimerExpiry (b : Bay) : Statement (.holdTimerExpiry b) :=
  ⟨rfl, fun k _ _ _ h => by cases k <;> cases h⟩

theorem washHold (b : Bay) : Statement (.washHold b) :=
  ⟨rfl, fun k _ _ _ h => by cases k <;> cases h⟩

theorem washResume (b : Bay) : Statement (.washResume b) :=
  ⟨rfl, fun k _ _ _ h => by cases k <;> cases h⟩

theorem fillStoppedMark : Statement .fillStoppedMark :=
  ⟨rfl, fun k _ _ _ h => by cases k <;> cases h⟩

theorem sweepTick (b : Bay) : Statement (.sweepTick b) :=
  ⟨rfl, fun k _ _ _ h => by cases k <;> cases h⟩

theorem releaseTimerCheck : Statement .releaseTimerCheck :=
  ⟨rfl, fun k _ _ _ h => by cases k <;> cases h⟩

theorem releaseLapse (r : RecordRef) : Statement (.releaseLapse r) :=
  ⟨rfl, fun k _ _ _ h => by cases k <;> cases h⟩

theorem yardClockSecond : Statement .yardClockSecond :=
  ⟨rfl, fun k _ _ _ h => by cases k <;> cases h⟩

theorem backupSupplyLoss : Statement .backupSupplyLoss :=
  ⟨rfl, fun k _ _ _ h => by cases k <;> cases h⟩

theorem ageMillisecond : Statement .ageMillisecond :=
  ⟨rfl, fun k _ _ _ h => by cases k <;> cases h⟩

end Sys2Proof.Laws.RequestFrame
end

