-- ==== Sys2Proof/Laws/Requests.lean ====
section
/-! SUPPORT. What a request command does, said once: a port that takes the frame at once answers by the common checks
and the owner of its kind. The proofs about a request cite these and unfold only its owner. -/

namespace Sys2Proof.Machine

/-- A kind's byte is read back as the kind. -/
@[simp] theorem kindOf_byte (k : Kind) : kindOf k.byte = some k := by cases k <;> decide

/-- The kind byte determines the kind. -/
theorem Kind.byte_injective (k k' : Kind) (h : k.byte = k'.byte) : k = k' := by
  have := kindOf_byte k
  rw [h, kindOf_byte] at this
  exact (Option.some.inj this).symm

/-- A byte that is no kind's has no kind. -/
theorem kindOf_none (b : Byte) (h : ∀ k : Kind, k.byte ≠ b) : kindOf b = none := by
  simp [kindOf, List.find?_eq_none, h]

/-- Every request command is its kind's frame reaching its port. -/
theorem exec_requestOf (k : Kind) (p : Port) (tag : Byte) (body : List Byte) (s : State) :
    exec (requestOf k p tag body) s = .next (s.request k p tag body) := by cases k <;> rfl

/-- A powered part puts the frame through the port's taking order. -/
theorem State.request_eq (s : State) (k : Kind) (p : Port) (tag : Byte) (body : List Byte) (h : s.mainPower = true) :
    s.request k p tag body = s.frameCompletes p ⟨k.byte, tag, body⟩ := by
  simp [State.request, whenPowered, h]

/-- A ready port takes a complete frame at once. -/
theorem State.Ready.frameCompletes {s : State} {p : Port} (h : s.Ready p) (f : Frame) (hl : f.body.length ≤ 240) :
    s.frameCompletes p f = s.take p f := by
  have hr : s.resetDue = false := by simp [State.resetDue, h.noReset]
  have : ¬ 240 < f.body.length := by omega
  simp [State.frameCompletes, this, h.idle, h.slotEmpty, hr]

/-- A ready port refuses what a common check refuses, and nothing changes but the answer being sent. -/
theorem exec_refused {s : State} {p : Port} (h : s.Ready p) (k : Kind) (tag : Byte) (body : List Byte)
    (hl : body.length ≤ 240) {c : AnswerCode} (hc : commonCheck p k body.length s = some c) :
    exec (requestOf k p tag body) s = .next (s.replies p k tag c []) := by
  rw [exec_requestOf, State.request_eq _ _ _ _ _ h.power, h.frameCompletes _ hl]
  simp [State.take, serve, hc, State.answer, State.replies, refuse]

/-- A ready port gives what passes the common checks to the owner of its kind, and answers what the owner answers. -/
theorem exec_owned {s t : State} {p : Port} (h : s.Ready p) (k : Kind) (tag : Byte) (body : List Byte)
    (hl : body.length ≤ 240) (hc : commonCheck p k body.length s = none) {r : Reply}
    (ho : owner k p body s = (t, r)) :
    exec (requestOf k p tag body) s = .next (t.replies p k tag r.code r.body) := by
  rw [exec_requestOf, State.request_eq _ _ _ _ _ h.power, h.frameCompletes _ hl]
  simp [State.take, serve, hc, ho, State.answer, State.replies]

/-- The common checks pass for a catalogued kind with its length, in OPEN or for a kind taken in RECOVERY, with its
position bound where that is needed. -/
theorem commonCheck_none {s : State} {p : Port} {k : Kind} {n : Nat} {e : Entry} (he : catalogue p k = some e)
    (hl : e.lengthOk n = true) (hm : s.act.mode = .recovery → e.inRecovery = true)
    (hb : e.needsBinding = true → s.unboundAt p = false) : commonCheck p k n s = none := by
  cases hi : e.inRecovery <;> cases hn : e.needsBinding <;> simp_all [commonCheck]

/-- In an open yard the common checks pass for a catalogued kind with its length that needs no binding. -/
theorem commonCheck_isOpen {s : State} {p : Port} {k : Kind} {n : Nat} {e : Entry} (ho : s.IsOpen)
    (he : catalogue p k = some e) (hl : e.lengthOk n = true) (hb : e.needsBinding = true → s.unboundAt p = false) :
    commonCheck p k n s = none :=
  commonCheck_none he hl (fun h => by rw [ho] at h; cases h) hb

/-- A compartment named through a position's binding comes of a bound position. -/
theorem State.bound_of_nameBound {s : State} {pos : Position} {n : Nat} {x : Named} (h : s.nameBound pos n = .ok x) :
    s.unboundAt pos.port = false := by
  unfold State.nameBound State.boundTanker at h
  cases hb : s.binding pos with
  | none => simp [hb] at h
  | some i => cases pos <;> simp [State.unboundAt, Position.port, Port.position, hb]

/-- A named compartment's record stands in the pool under its reference. -/
theorem State.record_of_compartmentOf {s : State} {i : Slot} {t : Tanker} {n : Nat} {x : Named}
    (h : s.compartmentOf i t n = some x) : s.ret.pool[x.ref] = some x.record := by
  unfold State.compartmentOf at h
  split at h
  · cases h
  · split at h
    · obtain ⟨c, hc, rfl⟩ := Option.map_eq_some_iff.mp h
      exact hc
    · cases h

/-- A compartment named through a position stands in the pool under its reference. -/
theorem State.record_of_nameBound {s : State} {pos : Position} {n : Nat} {x : Named} (h : s.nameBound pos n = .ok x) :
    s.ret.pool[x.ref] = some x.record := by
  unfold State.nameBound at h
  split at h
  · cases h
  · split at h
    · cases h; exact State.record_of_compartmentOf ‹_›
    · cases h

/-- A compartment named by slot stands in the pool under its reference. -/
theorem State.record_of_nameAtSlot {s : State} {slot n : Nat} {x : Named} (h : s.nameAtSlot slot n = .ok x) :
    s.ret.pool[x.ref] = some x.record := by
  unfold State.nameAtSlot at h
  split at h
  · cases h
  · split at h
    · cases h; exact State.record_of_compartmentOf ‹_›
    · cases h

end Sys2Proof.Machine
end

