-- ==== Sys2Proof/Tests/Slice0.lean ====
section
/-! SUPPORT. The model's own tests: the well-formedness check refuses what it should, the catalogue and the settings
hold against the manual's tables, the manual's worked examples come out, and every statement with hypotheses has a
state and operands that meet them. Each expected value is the manual's, at the place its comment names. -/

namespace Sys2Proof.Tests

open Machine

/-! ## A yard with a compartment in each state -/

/-- A thermal phase of two shares without an endpoint. -/
def rinse : Phase := ⟨.preRinse, .thermal, 100, 100, 2, 600, none, 100, 4000, 50⟩

/-- A volume phase of three shares with an endpoint. -/
def final : Phase := ⟨.finalRinse, .volume, 10, 0, 3, 60, some ⟨100, 4⟩, 0, 0, 0⟩

/-- A compartment of 500 litres with class 1 as its history and its intent. -/
def compartment (n : Nat) (x : CState) : Compartment :=
  ⟨n, 500, x, [0], none, some 0, some .wash, some 0, none, none, none, none⟩

/-- A progress part at phase 1. -/
def atPhaseOne (shares : Nat) (doses : List Nat) (held : Option CState) : Progress :=
  ⟨1, 50, 7, 59, 0, shares, doses, noMarks, held, 5, held.map (fun _ => 6)⟩

def washSummary : WashSummary := ⟨.wash, [100, 10], some 90⟩

def release (deadline : Nat) : Release := ⟨1, 0, 0, deadline, 7⟩

/-- Twelve records, a state each and some twice. -/
def records : List Compartment := [
  { compartment 1 .running with progress := some (atPhaseOne 2 [] none) },
  compartment 2 .dirty,
  { compartment 3 .washed with summary := some washSummary },
  { compartment 4 .released with summary := some washSummary, release := some (release 43200) },
  { compartment 1 .queued with progress := some (atPhaseOne 0 [] none) },
  { compartment 1 .handover with progress := some (atPhaseOne 0 [50] none) },
  { compartment 1 .held with progress := some (atPhaseOne 0 [] (some .running)) },
  { compartment 1 .filling with summary := some washSummary, release := some (release 43200),
                                fill := some ⟨0, 5, 40, none, ⟨false, false, false, false, false, false, false⟩⟩ },
  { compartment 2 .released with summary := some washSummary, release := some (release 99) },
  { compartment 3 .laden with intent := none, demand := none, program := none, summary := some washSummary,
                              release := some (release 43200),
                              fill := some ⟨0, 5, 50, some 5, ⟨false, true, false, false, false, false, false⟩⟩ },
  { compartment 1 .laden with intent := none, demand := none, program := none, summary := some washSummary,
                              release := some (release 43200),
                              fill := some ⟨0, 5, 50, some 5, ⟨false, true, false, false, false, false, false⟩⟩ },
  { compartment 2 .dirty with intent := none, demand := none, program := none }]

/-- Six tankers: four at the bays, one at the rack, one unbound. -/
def tankers : List Tanker := [
  ⟨[65#8], 1, [0, 1, 2, 3], some (.bay 0)⟩, ⟨[66#8], 2, [4], some (.bay 1)⟩, ⟨[67#8], 3, [5], some (.bay 2)⟩,
  ⟨[68#8], 4, [6], some (.bay 3)⟩, ⟨[69#8], 5, [7, 8, 9], some .rack⟩, ⟨[70#8], 6, [10, 11], none⟩]

/-- A wash unit with a compartment that is not RUNNING and no timer running. -/
def bayUnit (r : RecordRef) : WashUnit := ⟨some r, false, false, none, none, none, 0, none, some ⟨150, 1999⟩, none, 0⟩

/-- The yard: open, clock 100, one wash RUNNING, one QUEUED, one in HANDOVER, one HELD, one fill. -/
def yard : State where
  ret := { Retained.coldStart with
    classes := ((Vector.replicate 48 none).set 0 (some ⟨.food, 0, 0⟩)).set 1 (some ⟨.technical, 1, 1⟩)
    programs := ((Vector.replicate 16 []).set 0 [rinse, final]).set 1 [final]
    clock := 100
    certificate := 999999
    tankers := Vector.ofFn (fun i => tankers[i.val]?)
    pool := Vector.ofFn (fun r => records[r.val]?)
    freeList := (List.finRange 64).drop 12
    bindings := #v[some 0, some 1, some 2, some 3, some 4] }
  act := { Active.start Retained.coldStart (noneOf 64) with
    mode := .opened
    arbiter := ⟨8, 2, [⟨1, 4, 2, false, 0⟩], false, noneOf 16, false, some 4⟩
    units := #v[⟨some 0, true, true, none, none, none, 300, some 10, some ⟨150, 1999⟩, none, 0⟩,
      bayUnit 4, { bayUnit 5 with handoverTimer := some 120 },
      { bayUnit 6 with holdTimer := some 1200 }]
    slots := (Vector.replicate 6 SampleSlot.start).set 0 ⟨some 800, false, some 150, 1999⟩
    outputs := (Vector.replicate 4 ⟨0, 0, none⟩).set 0 ⟨1200, 100, some ⟨100, .up⟩⟩
    fillUnit := ⟨some 7, false⟩
    releaseTimer := true }
  mainPower := true
  freeCount := 0
  pending := []

set_option maxRecDepth 100000

theorem yard_attention : yard.AttentionLaw := by decide
theorem yard_pending : yard.PendingLaw := by decide
theorem yard_supply : yard.SupplyLaw := by decide
theorem yard_outputs : yard.OutputsLaw := by decide
theorem yard_wash : yard.WashLaw := fun _ => by and_intros <;> decide
theorem yard_loop : yard.LoopLaw := fun _ => by and_intros <;> decide
theorem yard_filling : yard.FillLaw := by decide
theorem yard_mode : yard.ModeLaw := by decide
theorem yard_ranges : yard.RangeLaw := ⟨fun _ => by and_intros <;> decide, fun _ => by and_intros <;> decide⟩
theorem yard_table : yard.YardTableLaw := fun _ => by and_intros <;> decide

theorem yard_records : yard.RecordLaw := by
  have h1 : ∀ k : RecordRef, ∀ c ∈ yard.ret.pool[k], 500 ≤ c.capacity ∧ c.capacity ≤ 30000 ∧ c.history.length ≤ 3 := by
    decide
  have h2 : ∀ k : RecordRef, ∀ c ∈ yard.ret.pool[k], c.PartsFit := by decide
  have h3 : ∀ k : RecordRef, ∀ c ∈ yard.ret.pool[k], yard.ret.NamesDefined c := by decide
  have h4 : ∀ k : RecordRef, ∀ c ∈ yard.ret.pool[k], ∀ p ∈ c.progress, yard.ProgressFits c p := by decide
  have h5 : ∀ k : RecordRef, ∀ c ∈ yard.ret.pool[k], ∀ w ∈ c.summary, w.phaseDoses.length ≤ 8 := by decide
  have h6 : ∀ k : RecordRef, ∀ c ∈ yard.ret.pool[k], c.state = .released ∨ c.state = .filling →
      c.release.map (·.releasedFor) = c.intent := by decide
  have h7 : ∀ k : RecordRef, ∀ c ∈ yard.ret.pool[k], ∀ f ∈ c.fill, c.release.map (·.releasedFor) = some f.cargo
      ∧ 1 ≤ f.preset ∧ f.preset ≤ c.capacity ∧ f.counted ≤ 999999 := by decide
  exact fun _ k c hc => ⟨(h1 k c hc).1, (h1 k c hc).2.1, (h1 k c hc).2.2, h2 k c hc, h3 k c hc, h4 k c hc, h5 k c hc,
    h6 k c hc, h7 k c hc⟩

/-- Every law holds of it. -/
theorem yard_sound : yard.Sound :=
  ⟨yard_attention, yard_pending, yard_supply, yard_ranges, yard_outputs, yard_table, yard_records, yard_wash,
    yard_loop, yard_filling, yard_mode⟩

/-! ## The well-formedness check and the manual's tables -/

/-- A body above 240 bytes is no frame's (R162): the longest is refused one byte up. -/
theorem test_long_body_is_ill_formed :
    (Instr.status .office 0#8 (List.replicate 241 0#8)).wellFormed = false
      ∧ (Instr.status .office 0#8 (List.replicate 240 0#8)).wellFormed = true := by decide

/-- A row of the catalogue of 10.6: kind byte, length from a bay, from the rack, from the office, whether more is
accepted, and whether the kind is taken in RECOVERY from a bay or the rack, and from the office. -/
structure CatalogueRow where
  kind : Nat
  bay : Option Nat
  rack : Option Nat
  office : Option Nat
  orMore : Bool
  recovery : Bool
  officeRecovery : Bool
deriving DecidableEq

/-- The catalogue of 10.6, row by row. -/
def catalogueRows : List CatalogueRow := [
  ⟨0x01, some 0, some 0, some 0, false, true, true⟩, ⟨0x02, some 0, some 0, some 0, false, true, true⟩,
  ⟨0x03, some 1, some 1, some 1, false, true, true⟩, ⟨0x04, some 0, some 0, some 1, false, false, true⟩,
  ⟨0x05, some 0, some 0, some 1, false, true, true⟩, ⟨0x06, some 1, some 1, some 2, false, true, true⟩,
  ⟨0x10, none, none, some 9, true, false, true⟩, ⟨0x11, none, none, some 1, false, false, true⟩,
  ⟨0x12, none, none, some 3, false, false, false⟩, ⟨0x13, none, none, some 2, false, false, true⟩,
  ⟨0x14, none, none, some 2, false, false, true⟩, ⟨0x15, none, none, some 2, false, false, true⟩,
  ⟨0x16, none, none, some 0, false, false, true⟩, ⟨0x17, none, none, some 0, false, false, true⟩,
  ⟨0x20, some 8, some 8, none, false, false, false⟩, ⟨0x21, some 0, some 0, none, false, false, false⟩,
  ⟨0x30, some 1, none, none, false, false, false⟩, ⟨0x31, some 1, none, none, false, false, false⟩,
  ⟨0x32, some 1, none, none, false, false, false⟩, ⟨0x33, some 3, none, none, false, false, false⟩,
  ⟨0x34, some 2, none, none, false, false, false⟩, ⟨0x40, none, some 4, none, false, false, false⟩,
  ⟨0x41, none, some 3, none, false, false, false⟩, ⟨0x42, none, some 1, none, false, false, false⟩,
  ⟨0x50, none, none, some 4, false, false, true⟩, ⟨0x51, none, none, some 2, true, false, true⟩,
  ⟨0x52, none, none, some 13, false, false, true⟩, ⟨0x53, none, none, some 8, false, false, true⟩,
  ⟨0x54, none, none, some 3, false, false, true⟩, ⟨0x58, none, none, some 1, false, false, true⟩,
  ⟨0x59, none, none, some 1, false, false, true⟩, ⟨0x5A, none, none, some 1, false, false, true⟩,
  ⟨0x5B, none, none, some 1, false, false, true⟩, ⟨0x5C, none, none, some 1, false, false, true⟩,
  ⟨0x60, none, none, some 4, false, false, true⟩, ⟨0x61, none, none, some 0, false, false, true⟩,
  ⟨0x62, none, none, some 0, false, false, true⟩]

theorem test_catalogue_is_the_table_of_10_6 :
    allKinds.map (fun k => (⟨k.byte.toNat, (catalogue (.bay 0) k).map (·.length), (catalogue .rack k).map (·.length),
      (catalogue .office k).map (·.length), (catalogue .office k).any (fun e => !e.exact),
      (catalogue (.bay 0) k).any (·.inRecovery),
        (catalogue .office k).any (·.inRecovery)⟩ : CatalogueRow)) = catalogueRows := by
  decide

/-- The ranges and defaults of R174, setting 1 first. -/
theorem test_settings_are_the_table_of_R174 :
    (List.finRange 25).map (fun i => (settingLow i, settingHigh i)) =
      [(1, 12), (0, 1000), (60, 1800), (10, 600), (60, 3600), (1, 48), (0, 200), (1, 100), (1, 100), (1, 100),
        (1, 100), (1, 100), (1, 8), (1, 8), (1, 8), (1, 8), (1, 8), (0, 1023), (0, 1023), (0, 1023), (0, 1023),
        (0, 4095), (0, 4095), (0, 4095), (0, 4095)]
    ∧ State.reset.ret.settings.toList =
      [8, 250, 600, 120, 1200, 12, 10, 10, 10, 10, 10, 10, 4, 4, 4, 4, 4, 600, 600, 600, 600, 0, 0, 0, 0] := by decide

/-- The default routes of R148: line 0 holds every bay, lines 1 to 12 the bays in turn, 13 and 14 the rack, and 15
blocks grants. -/
theorem test_default_routes :
    State.reset.ret.routes.toList.map (fun e => e.action) =
      [.holdAll, .holdBay 0, .holdBay 1, .holdBay 2, .holdBay 3, .holdBay 0, .holdBay 1, .holdBay 2, .holdBay 3,
        .holdBay 0, .holdBay 1, .holdBay 2, .holdBay 3, .stopRack, .stopRack, .blockGrants] := by decide

/-- The state codes of 10.6, in the order of its table. -/
theorem test_state_codes :
    [CState.dirty, .queued, .running, .handover, .held, .washed, .released, .filling, .laden].map CState.code
      = [1, 2, 3, 4, 5, 6, 7, 8, 9] := by decide

/-- The note codes of 10.6, in the order of its table, none first. -/
theorem test_note_codes :
    [none, some Note.aborted, some .cancelled, some .phaseTimeout, some .handoverTimeout, some .reEntryTimeout,
      some .holdExpired, some .inspectFailed, some .lapsed, some .voided, some .powerLost,
        some .probeFault].map noteCode
      = [0, 1, 2, 3, 4, 5, 6, 7, 8, 9, 10, 11] := by decide

/-- The codes of a demand and of a kind performed (10.6). -/
theorem test_demand_codes : [Demand.noWash, .wash, .deep].map Demand.code = [0, 1, 2] := by decide

/-- READ-COMPARTMENT's body for the yard's HELD record, written out by the offsets of 10.6: fixed fields 0 to 10, intent
11 to 14, progress 15 to 56, and no other part. -/
theorem test_held_record_bytes :
    (Named.bytes ⟨3, 6, records.getD 6 default⟩).map BitVec.toNat =
      [6, 4, 1, 1, 244, 5, 1, 1, 0, 0, 0] ++ [1, 1, 1, 1]
        ++ [1, 1, 0, 0, 50, 7, 0, 59, 0, 0, 0, 3, 0, 0, 0, 5, 0, 0, 0, 6, 0] ++ List.replicate 21 0
        ++ List.replicate 56 0 := by decide

/-- The body for the yard's first LADEN record: no intent, no progress, wash summary 57 to 86, release 87 to 101, fill
102 to 112. -/
theorem test_laden_record_bytes :
    (Named.bytes ⟨4, 9, records.getD 9 default⟩).map BitVec.toNat =
      [9, 5, 3, 1, 244, 9, 1, 1, 0, 0, 0] ++ List.replicate 46 0
        ++ [1, 1, 2, 0, 0, 100, 0, 0, 10] ++ List.replicate 18 0 ++ [1, 0, 90]
        ++ [1, 0, 0, 1, 1, 0, 0, 0, 0, 0, 0, 168, 192, 0, 7] ++ [1, 1, 0, 5, 0, 0, 50, 1, 0, 5, 2] := by decide

/-! ## The manual's worked cases -/

/-- The check of R162 over the nine digits' ASCII codes, 0x29B1: the known value of the CRC with polynomial 0x1021,
initial value 0xFFFF and no final inversion. -/
theorem test_check_word : crc16 [49#8, 50#8, 51#8, 52#8, 53#8, 54#8, 55#8, 56#8, 57#8] = 0x29B1#16 := by decide

/-- The worked codes of R102. -/
theorem test_worked_codes :
    [codeValue 0 1, codeValue 0 512, codeValue 0 770, codeValue 0 1022, codeValue 2 21, codeValue 2 1022,
      codeValue 5 251, codeValue 3 0, codeValue 0 1023] =
    [some 0, some 100, some 150, some 200, some 40, some 2042, some 250, none, none] := by decide

/-- One thermal close (5.8): 38 pulses at K 5, supply 151, floor 130, from A 1,499,850 and R 7. -/
theorem test_thermal_close :
    increment ⟨.hotRinse, .thermal, 1500000, 130, 1, 600, none, 0, 0, 0⟩ (pulseFigure 38 * 5) 7 (some ⟨151, 120⟩)
      = ⟨199, 17, false⟩ := by decide

/-- The probe fault of 5.8: close 4 at an age of 1.1 s, close 5 at 2.1 s, close 8 below the floor. -/
theorem test_thermal_closes_through_a_fault :
    let ph : Phase := ⟨.hotRinse, .thermal, 1, 130, 1, 600, none, 0, 0, 0⟩
    increment ph (24 * 7) 19 (some ⟨137, 1100⟩) = ⟨59, 15, false⟩
      ∧ increment ph (25 * 7) 15 (some ⟨137, 2100⟩) = ⟨0, 15, true⟩
      ∧ increment ph (21 * 7) 15 (some ⟨129, 100⟩) = ⟨0, 15, false⟩ := by decide

/-- A volume close at saturation (5.8): 312 pulses count as 255, and 38,100 becomes 40,650 with OVERRANGE. -/
theorem test_volume_close_saturates :
    let p := { atPhaseOne 2 [] none with dose := 38100 }
    let q := p.closed ⟨.hotRinse, .volume, 20000, 0, 1, 600, none, 0, 0, 0⟩
      ⟨none, true, true, none, none, none, 312, some 10, none, none, 0⟩
    q.dose = 40650 ∧ q.marks.overrange = true := by decide

/-- The endpoint counts of 5.8: L 40, N 4, H 10, and L 100, N 2, H 25 with a faulty sample. -/
theorem test_endpoint_counts :
    ([52, 48, 39, 41, 38, 51, 37, 36, 40, 39].foldl (fun (ns : List Nat) v =>
        ns ++ [countAfter ⟨40, 4⟩ 10 (ns.getLastD 0) (some v)]) []) = [0, 0, 1, 1, 2, 0, 1, 2, 3, 4]
    ∧ ([some 98, none, some 97, some 120, some 126, some 99, some 100].foldl (fun (ns : List Nat) v =>
        ns ++ [countAfter ⟨100, 2⟩ 25 (ns.getLastD 0) v]) []) = [1, 0, 1, 1, 0, 1, 2] := by decide

/-- The tolerances of R140: 123,456 dL against 12,200 L, 31,800 dL against 3,200 L and 3,201 L, 0 against 0 and 25. -/
theorem test_tolerances :
    [tolerance 123456, tolerance 31800, tolerance 999999] = [617, 200, 4999]
    ∧ [mismatch 123456 12200, mismatch 31800 3200, mismatch 31800 3201, mismatch 0 0, mismatch 0 25] =
      [true, false, true, false, true] := by decide

/-- The worked shift of R128, and a deadline held at each end of the clock's range. -/
theorem test_deadlines_shift :
    shiftDeadline 543200 510000 508200 = 541400 ∧ shiftDeadline 100 5000 1000 = 0
      ∧ shiftDeadline 4294967000 0 1000 = 4294967295 := by decide

/-- The worked assessments of 2.5, cases A to F. -/
theorem test_worked_assessments :
    let classes := ((((((Vector.replicate 48 (none : Option ClassDef)).set 2 (some ⟨.food, 0, 1⟩)).set 6
      (some ⟨.food, 1, 2⟩)).set 11 (some ⟨.food, 2, 3⟩)).set 19 (some ⟨.feed, 5, 5⟩)).set 30
      (some ⟨.technical, 8, 8⟩)).set 34 (some ⟨.technical, 9, 9⟩)
    let row (a b : Cell) : Vector Cell 12 :=
      #v[a, .wash, b, .wash, .wash, .noWash, .wash, .wash, .wash, .wash, .wash, .wash]
    let r := { Retained.coldStart with
      classes := classes
      follow := ((((Retained.coldStart.follow.set 0 (row .noWash .wash)).set 1 (row .wash .deep)).set 2
        (row .deep .wash)).set 8 (row .barred .wash)).set 9 (row .wash .wash)
      programs := Vector.replicate 16 [rinse] }
    [r.assess [2, 2] 2, r.assess [6, 2] 2, r.assess [34] 11, r.assess [2, 30] 19, r.assess [11, 30, 2] 2,
      r.assess [] 19] =
    [.demands .noWash none, .demands .wash (some 2), .demands .deep (some 9), .demands .wash (some 1), .barred 30,
      .demands .wash (some 5)] := by decide

/-- The worked admission and departure of 1.2: slots, references and the free list. -/
theorem test_worked_admission :
    let send : List Byte → Nat → List Byte := fun token n =>
      tokenBytes token ++ byte1 n ++ (List.replicate n [1#8, 244#8, 0#8]).flatten
    let yard := State.reset.runAll
      [.admitTanker .office 1#8 (send [75#8, 82#8, 53#8, 50#8] 3), .answerSendComplete .office,
        .admitTanker .office 2#8 (send [90#8, 84#8] 2), .answerSendComplete .office, .depart .office 3#8 [1#8],
        .answerSendComplete .office, .admitTanker .office 4#8 (send [75#8, 82#8, 53#8, 50#8] 4)]
    yard.map (fun s => ((s.ret.tankers[(0 : Slot)]).map (·.compartments),
        (s.ret.tankers[(1 : Slot)]).map (·.compartments),
      s.ret.freeList.take 2, s.ret.freeList.drop 55)) =
    some (some [5, 6, 7, 8], some [3, 4], [9, 10], [0, 1, 2]) := by decide

/-- An arbiter with no block cause and no grant request on its way. -/
def loop (capacity granted : Nat) (queue : List QueueEntry) : Arbiter :=
  ⟨capacity, granted, queue, false, noneOf 16, false, none⟩

/-- The worked arbitration of 4.3 at its first and last rows: a backfill past the head, and the head granted once the
room is 4; and an entry that fits waits behind a head passed three times. -/
theorem test_worked_arbitration :
    (loop 8 6 [⟨1, 4, 4, false, 0⟩, ⟨2, 5, 2, false, 0⟩]).pick = some (⟨2, 5, 2, false, 0⟩, true)
    ∧ (loop 8 4 [⟨1, 4, 4, false, 2⟩]).pick = some (⟨1, 4, 4, false, 2⟩, false)
    ∧ (loop 8 6 [⟨1, 4, 4, false, 3⟩, ⟨2, 5, 2, false, 0⟩]).pick = none := by decide

/-- The first row of R80: C 8, G 6, bay 2 at the head for 4 shares. With the return of bay 1's 2 shares first, the grant
sent is bay 2's, and bay 4's join leaves it; with the join of bay 4 first it is bay 4's backfill, and the return leaves
it, though the head now fits. -/
theorem test_R80_return_and_join :
    let a := loop 8 6 [⟨1, 4, 4, false, 0⟩]
    let bayFour : QueueEntry := ⟨3, 5, 2, false, 0⟩
    (((a.returnShares 2).join bayFour).request = some (⟨1, 4, 4, false, 0⟩, false))
      ∧ (((a.join bayFour).returnShares 2).request = some (bayFour, true)) := by decide

/-- The third row of R80: a BLOCK-GRANTS line active before a join stops its grant, and active after it does not; it
stops the grants that would follow. -/
theorem test_R80_block_and_join :
    let bayFour : QueueEntry := ⟨3, 5, 2, false, 0⟩
    let bayThree : QueueEntry := ⟨2, 6, 2, false, 0⟩
    (((loop 8 0 []).setBlockLine 15 true).join bayFour).request = none
      ∧ ((((loop 8 0 []).join bayFour).setBlockLine 15 true).request = some (bayFour, false))
      ∧ (((((loop 8 0 []).join bayFour).join bayThree).setBlockLine 15 true).grantTaken bayFour false).request
          = none := by decide

/-- The rows of R80 for a grant and its compartment's leaving, and for a backfill and the head's leaving: the grant is
not taken, and the backfill is granted as the head. -/
theorem test_R80_leaving :
    let head : QueueEntry := ⟨1, 4, 4, false, 1⟩
    let bayFour : QueueEntry := ⟨3, 5, 2, false, 0⟩
    (((loop 8 6 []).join bayFour).leave 5).request = none
      ∧ ((((loop 8 6 [head]).join bayFour).leave 4).request = some (bayFour, false)) := by decide

/-- A capacity lowered below the entry of a grant on its way: the grant is not made (R67, R75). -/
theorem test_capacity_lowered_before_the_grant :
    (((loop 8 0 []).join ⟨0, 5, 4, false, 0⟩).setCapacity 3).request = none := by decide

/-! ## Witnesses: a state and operands that meet the hypotheses of each statement, clause by clause -/

/-- Every port of the yard takes a frame at once. -/
theorem ready (p : Port) : yard.Ready p := by
  cases p with
  | bay b => fin_cases b <;> exact ⟨rfl, rfl, rfl, by decide⟩
  | rack => exact ⟨rfl, rfl, rfl, by decide⟩
  | office => exact ⟨rfl, rfl, rfl, by decide⟩

theorem yard_is_open : yard.IsOpen := rfl

/-- The yard in RECOVERY. -/
def closed : State := { yard with act := { yard.act with mode := .recovery } }

theorem closed_ready (p : Port) : closed.Ready p := by
  cases p with
  | bay b => fin_cases b <;> exact ⟨rfl, rfl, rfl, by decide⟩
  | rack => exact ⟨rfl, rfl, rfl, by decide⟩
  | office => exact ⟨rfl, rfl, rfl, by decide⟩

/-- A named compartment of the yard. -/
def named (i : Slot) (r : RecordRef) : Named := ⟨i, r, records.getD r.val default⟩

/-- The yard with one record written anew. -/
def withRecord (r : RecordRef) (c : Compartment) : State :=
  { yard with ret := { yard.ret with pool := yard.ret.pool.set r (some c) } }

/-- The yard with one bay's unit written anew. -/
def withUnit (b : Bay) (u : WashUnit) : State := yard.setUnit b u

/-- The yard with causes in every hold set. -/
def heldYard : State := { yard with act := { yard.act with holds := Vector.replicate 5 ⟨noneOf 16, true⟩ } }

theorem heldYard_ready (p : Port) : heldYard.Ready p := by
  cases p with
  | bay b => fin_cases b <;> exact ⟨rfl, rfl, rfl, by decide⟩
  | rack => exact ⟨rfl, rfl, rfl, by decide⟩
  | office => exact ⟨rfl, rfl, rfl, by decide⟩

theorem witness_StepRunsFrontCommand : yard.pending = [] := rfl

theorem witness_CommandsCompleteAndUnpoweredPartStands :
    ({ yard with mainPower := false } : State).mainPower = false ∧ Instr.grant ≠ .coldStart
      ∧ Instr.grant ≠ .powerReturn ∧ Instr.grant ≠ .backupSupplyLoss ∧ Instr.grant ≠ .yardClockSecond := by decide

theorem witness_TakenRequestIsAnswered :
    yard.Ready .office ∧ (List.replicate 240 0#8).length ≤ 240 ∧ yard.Sound := ⟨ready _, by decide, yard_sound⟩

theorem witness_CommonChecksInOrder :
    yard.Ready (.bay 0) ∧ closed.Ready .rack ∧ closed.Ready .office
      ∧ (∀ k : Kind, k.byte ≠ 0x00#8) ∧ catalogue (.bay 0) .depart = none
      ∧ (∃ e ∈ catalogue (.bay 0) .readCompartment, e.lengthOk 2 = false ∧ e.lengthOk 1 = true)
      ∧ (∃ e ∈ catalogue .office .admitTanker, e.lengthOk 8 = false ∧ e.lengthOk 9 = true)
      ∧ closed.act.mode = .recovery ∧ (∃ e ∈ catalogue .rack .resume, e.lengthOk 0 = true)
      ∧ Kind.resume ∉ [Kind.status, .events, .ackLine, .readTanker, .readCompartment]
      ∧ (∃ e ∈ catalogue .office .setIntent, e.lengthOk 3 = true)
      ∧ ∃ pos ∈ (Port.bay 3).position,
          ({ yard with ret := { yard.ret with bindings := Vector.replicate 5 none } } : State).binding pos = none :=
  ⟨ready _, closed_ready _, closed_ready _, by intro k; cases k <;> decide, by decide, by decide, by decide, rfl,
    by decide, by decide, by decide, _, rfl, by decide⟩

theorem witness_NamingACompartment :
    yard.Ready (.bay 0) ∧ yard.Ready .office ∧ yard.IsOpen ∧ yard.binding (.bay 0) = some 0
      ∧ (∃ t ∈ yard.ret.tankers[(0 : Slot)], t.compartments.length = 4
          ∧ t.compartments[(1#8).toNat - 1]? = some 0 ∧ t.compartments[(4#8).toNat - 1]? = some 3)
      ∧ (yard.ret.pool[(0 : RecordRef)]).isSome = true ∧ (yard.ret.pool[(3 : RecordRef)]).isSome = true
      ∧ (∃ e ∈ catalogue (.bay 0) .startWash, e.needsBinding = true ∧ e.exact = true ∧ e.length = 0 + 1)
      ∧ (∃ e ∈ catalogue .office .setIntent, e.exact = true ∧ e.length = 1 + 2)
      ∧ (∃ e ∈ catalogue (.bay 0) .readCompartment, e.needsBinding = true ∧ e.exact = true ∧ e.length = 0 + 1)
      ∧ (∃ e ∈ catalogue .office .emptied, e.exact = true ∧ e.length = 0 + 2) ∧ closed.act.mode = .recovery
      ∧ (0#8).toNat = 0 ∧ 4 < (5#8).toNat ∧ 12 < (13#8).toNat
      ∧ (12#8).toNat = (11 : Slot).val + 1 ∧ yard.ret.tankers[(11 : Slot)] = none :=
  ⟨ready _, ready _, rfl, by decide⟩

/-- The yard with a port's holding slot and answer given. -/
def withPort (p : Port) (x : PortState) : State := yard.setPort p x

theorem witness_TakingOrderOfAPort :
    let f : Frame := ⟨1#8, 2#8, []⟩
    let a : Answer := ⟨1#8, 2#8, .ok, []⟩
    (withPort .rack ⟨.hunting, some f, some a, 255⟩).mainPower = true
      ∧ ((withPort .rack ⟨.hunting, some f, some a, 255⟩).port .rack).holding.isSome = true
      ∧ ((withPort .rack ⟨.hunting, none, some a, 0⟩).port .rack).holding = none
      ∧ ((withPort .rack ⟨.hunting, none, some a, 0⟩).port .rack).sending.isSome = true
      ∧ (yard.port .rack).sending = none
      ∧ (withPort .rack ⟨.hunting, some f, some a, 255⟩).act.yardReset ≠ .due
      ∧ (let s := withPort .office ⟨.hunting, some f, some a, 0⟩
        ({ s with act := { s.act with yardReset := .answering } } : State).act.yardReset = .answering
          ∧ (s.port .office).sending.isSome = true)
      ∧ ({ yard with act := { yard.act with yardReset := .due } } : State).act.yardReset = .due
      ∧ (yard.port .rack).holding = none := by decide

theorem witness_ReceiverTakesBytes :
    let s (got : List Byte) := withPort (.bay 1) ⟨.inFrame got, none, none, 254⟩
    yard.mainPower = true ∧ (yard.port (.bay 1)).receiver = .hunting ∧ (0x3C#8 : Byte) = 0x3C#8
      ∧ (0x3D#8 : Byte) ≠ 0x3C#8 ∧ ((s []).port (.bay 1)).receiver = .inFrame [] ∧ 240 < (241#8 : Byte).toNat
      ∧ (240#8 : Byte).toNat ≤ 240 ∧ ((s [240#8]).port (.bay 1)).receiver = .inFrame [240#8]
      ∧ ([] : List Byte).length < (240#8 : Byte).toNat + 3
      ∧ [0#8, 1#8, 7#8, 0x8F#8] = 0#8 :: (1#8 :: 7#8 :: ([] ++ [0x8F#8]))
      ∧ ((s [0#8, 1#8, 7#8, 0x8F#8]).port (.bay 1)).receiver = .inFrame [0#8, 1#8, 7#8, 0x8F#8]
      ∧ byte2 (crc16 [0#8, 1#8, 7#8]).toNat ≠ [0x8F#8, 0x4B#8]
      ∧ byte2 (crc16 [0#8, 1#8, 7#8]).toNat = [0x8F#8, 0x4A#8] := by decide

theorem witness_WireFrameIsTheRequest :
    yard.mainPower = true ∧ (List.replicate 240 0#8).length ≤ 240 ∧ (yard.port .office).receiver = .hunting := by decide

/-- The yard with a grant waiting, which moves the arbiter, a unit, an output and a record. -/
def waiting : State := { yard with pending := [.grant] }

theorem waiting_sound : waiting.Sound :=
  ⟨yard_attention, yard_pending, yard_supply, yard_ranges, yard_outputs, yard_table, yard_records, yard_wash,
    yard_loop, yard_filling, yard_mode⟩

theorem witness_StepKeepsAttentionLaw : waiting.AttentionLaw ∧ ∃ t, step waiting = .next t :=
  ⟨waiting_sound.attention, _, rfl⟩

theorem witness_StepKeepsPendingLaw : waiting.PendingLaw ∧ ∃ t, step waiting = .next t :=
  ⟨waiting_sound.waiting, _, rfl⟩

theorem witness_StepKeepsSupplyLaw : waiting.SupplyLaw ∧ ∃ t, step waiting = .next t :=
  ⟨waiting_sound.supply, _, rfl⟩

theorem witness_StepKeepsRangeLaw : waiting.RangeLaw ∧ ∃ t, step waiting = .next t :=
  ⟨waiting_sound.ranges, _, rfl⟩

theorem witness_StepKeepsOutputsLaw : waiting.OutputsLaw ∧ ∃ t, step waiting = .next t :=
  ⟨waiting_sound.outputs, _, rfl⟩

theorem witness_StepKeepsYardTableLaw : waiting.YardTableLaw ∧ ∃ t, step waiting = .next t :=
  ⟨waiting_sound.table, _, rfl⟩

theorem witness_StepKeepsRecordLaw : waiting.RangeLaw ∧ waiting.RecordLaw ∧ ∃ t, step waiting = .next t :=
  ⟨waiting_sound.ranges, waiting_sound.records, _, rfl⟩

theorem witness_StepKeepsWashLaw : waiting.Sound ∧ ∃ t, step waiting = .next t := ⟨waiting_sound, _, rfl⟩

theorem witness_StepKeepsLoopLaw : waiting.Sound ∧ ∃ t, step waiting = .next t := ⟨waiting_sound, _, rfl⟩

theorem witness_StepKeepsFillLaw : waiting.Sound ∧ ∃ t, step waiting = .next t := ⟨waiting_sound, _, rfl⟩

theorem witness_StepKeepsModeLaw : waiting.Sound ∧ ∃ t, step waiting = .next t := ⟨waiting_sound, _, rfl⟩

/-- The step the witnesses name does something: the compartment of bay 2 is RUNNING after it. -/
theorem test_waiting_grant_runs :
    (match step waiting with | .next t => (t.record 4).map (·.state) | _ => none) = some .running := by decide

theorem witness_NoticeHandOver :
    (∃ pos ∈ yard.ownerBinding 0, pos.port = .bay 0) ∧ Port.office = .office
      ∧ ¬ (Port.rack = .office ∨ ∃ pos ∈ yard.ownerBinding 0, pos.port = .rack) := by decide

/-- The token Z, and one that is no token. -/
def tokenZ : List Byte := 90#8 :: List.replicate 7 32#8

theorem witness_AdmitChecksInOrder :
    let x : Byte × Byte × List Byte := (1#8, 244#8, [1#8])
    let low : Byte × Byte × List Byte := (1#8, 243#8, [])
    let high : Byte × Byte × List Byte := (117#8, 49#8, [])
    yard.Ready .office ∧ tokenZ.length = 8 ∧ (admitBody tokenZ [x] ++ [0#8]).length ≤ 240 ∧ [0#8] ≠ ([] : List Byte)
      ∧ 12 < (admitBody tokenZ [x]).length ∧ 9 < (admitBody tokenZ [x]).length
      ∧ 8 < (List.replicate 9 x).length ∧ (admitBody tokenZ (List.replicate 9 x)).length ≤ 240
      ∧ number [low.1, low.2.1] < 500 ∧ number [x.1, x.2.1] = 500 ∧ 30000 < number [high.1, high.2.1]
      ∧ (49#8).toNat > 48
      ∧ TokenFits [90#8] ∧ tokenZ = [90#8] ++ List.replicate (8 - [90#8].length) 32#8
      ∧ BitVec.ofNat 8 ((47 : ClassNo).val + 1) ∈ [48#8] ∧ yard.ret.classes[(47 : ClassNo)] = none
      ∧ yard.ret.classes[(0 : ClassNo)] ≠ none
      ∧ (∃ i : Slot, ∃ u ∈ yard.ret.tankers[i], u.token = [65#8])
      ∧ (∀ i : Slot, ∀ u ∈ yard.ret.tankers[i], u.token ≠ [90#8])
      ∧ ({ yard with ret := { yard.ret with freeList := [12] } } : State).ret.freeList.length < 2 :=
  ⟨ready _, by decide⟩

theorem witness_AdmitTaken :
    yard.Ready .office ∧ TokenFits [90#8] ∧ (∀ x ∈ [(500, [(0 : ClassNo)]), (30000, [0, 1, 0])],
        500 ≤ x.1 ∧ x.1 ≤ 30000 ∧ x.2.length ≤ 3 ∧ ∀ k ∈ x.2, yard.ret.classes[k] ≠ none)
      ∧ (∀ j : Slot, ∀ u ∈ yard.ret.tankers[j], u.token ≠ [90#8]) ∧ yard.ret.tankers[(6 : Slot)] = none
      ∧ (∀ j : Slot, j < 6 → yard.ret.tankers[j] ≠ none) ∧ 2 ≤ yard.ret.freeList.length :=
  ⟨ready _, by decide⟩

theorem witness_DepartFreesTheTanker :
    yard.Ready .office ∧ (0#8 : Byte).toNat = 0 ∧ 12 < (13#8 : Byte).toNat
      ∧ (7#8 : Byte).toNat = (6 : Slot).val + 1 ∧ yard.ret.tankers[(6 : Slot)] = none
      ∧ (∃ t ∈ yard.ret.tankers[(0 : Slot)], t.binding ≠ none ∧ (1#8 : Byte).toNat = (0 : Slot).val + 1
          ∧ ∃ r ∈ t.compartments, ∃ c ∈ yard.ret.pool[r], c.state = .running)
      ∧ (∃ t ∈ (yard.ret.tankers.set 0 (some ⟨[65#8], 1, [0], none⟩))[(0 : Slot)], t.binding = none
          ∧ ∃ r ∈ t.compartments, ∃ c ∈ yard.ret.pool[r], c.state = .running)
      ∧ (∃ t ∈ yard.ret.tankers[(5 : Slot)], t.binding = none ∧ (6#8 : Byte).toNat = (5 : Slot).val + 1
          ∧ ∀ r ∈ t.compartments, ∀ c ∈ yard.ret.pool[r],
              c.state = .dirty ∨ c.state = .washed ∨ c.state = .released ∨ c.state = .laden) :=
  ⟨ready _, by decide⟩

/-- The yard with bay 4's tanker gone from the bay. -/
def bayFourFree : State :=
  { yard with ret := { yard.ret with
    bindings := yard.ret.bindings.set 3 none
    tankers := yard.ret.tankers.set 3 (some ⟨[68#8], 4, [], none⟩) } }

theorem witness_DockAndUndock :
    yard.Ready (.bay 3) ∧ yard.IsOpen ∧ tokenZ.length = 8
      ∧ (∀ i : Slot, ∀ t ∈ yard.ret.tankers[i], tokenZ ≠ tokenBytes t.token)
      ∧ (∀ i : Slot, ∀ t ∈ yard.ret.tankers[i], TokenFits t.token
          ∧ ∀ j : Slot, ∀ u ∈ yard.ret.tankers[j], u.token = t.token → j = i)
      ∧ yard.binding (.bay 3) = some 3 ∧ yard.binding (.bay 3) ≠ some 5
      ∧ bayFourFree.binding (.bay 3) = none ∧ (∃ t ∈ bayFourFree.ret.tankers[(3 : Slot)], t.binding = none)
      ∧ (bayFourFree.hold (.bay 3)).nonEmpty = false ∧ (heldYard.hold (.bay 3)).nonEmpty = true
      ∧ (∃ t ∈ yard.ret.tankers[(0 : Slot)], ∃ r ∈ t.compartments, ∃ c ∈ yard.ret.pool[r], c.state = .running)
      ∧ (∃ t ∈ yard.ret.tankers[(4 : Slot)], ∃ r ∈ t.compartments, ∃ c ∈ yard.ret.pool[r], c.state = .filling)
      ∧ (∀ t ∈ bayFourFree.ret.tankers[(3 : Slot)], ∀ r ∈ t.compartments, ∀ c ∈ yard.ret.pool[r], c.state ≠ .held) :=
  ⟨ready _, rfl, by and_intros <;> decide⟩

theorem witness_ReadingTheTable :
    yard.Ready .office ∧ yard.Ready (.bay 0) ∧ closed.Ready .rack ∧ (13#8 : Byte).toNat > 12
      ∧ (12#8 : Byte).toNat = (11 : Slot).val + 1 ∧ yard.ret.tankers[(11 : Slot)] = none
      ∧ (∃ t ∈ yard.ret.tankers[(5 : Slot)], (6#8 : Byte).toNat = (5 : Slot).val + 1 ∧ t.binding = none)
      ∧ yard.nameAtSlot (6#8 : Byte).toNat (2#8 : Byte).toNat = .ok (named 5 11) ∧ (named 5 11).record.ListsFit
      ∧ bayFourFree.binding (.bay 3) = none ∧ (∃ t ∈ yard.ret.tankers[(0 : Slot)], yard.binding (.bay 0) = some 0
          ∧ t.compartments.length = 4 ∧ ∀ r ∈ t.compartments, yard.ret.pool[r] ≠ none)
      ∧ yard.nameBound (.bay 0) (1#8 : Byte).toNat = .ok (named 0 0) ∧ (named 0 0).record.ListsFit :=
  ⟨ready _, ready _, closed_ready _, by decide, by decide, by decide, by decide, rfl, by decide, by decide, by decide,
    rfl, by decide⟩

theorem witness_WriteClassWritesTheEntry :
    yard.Ready .office ∧ (List.replicate 5 0#8).length ≠ 4 ∧ (List.replicate 240 0#8).length ≤ 240
      ∧ (0#8 : Byte).toNat = 0 ∧ 48 < (49#8 : Byte).toNat ∧ 3 < (4#8 : Byte).toNat
      ∧ 11 < (12#8 : Byte).toNat ∧ 16 < (17#8 : Byte).toNat ∧ (48#8 : Byte).toNat = (47 : ClassNo).val + 1
      ∧ yard.ClassInUse 0 ∧ ¬ yard.ClassInUse 47 ∧ (3#8 : Byte).toNat =
        (match Grade.technical with | .food => 1 | .feed => 2 | .technical => 3)
      ∧ (11#8 : Byte).toNat = (11 : Group).val ∧ (16#8 : Byte).toNat = (15 : ProgramNo).val + 1 :=
  ⟨ready _, by decide⟩

theorem witness_FollowRowsAndClassReads :
    yard.Ready .office ∧ (List.replicate 14 0#8).length ≠ 13 ∧ (List.replicate 12 4#8).length = 12
      ∧ (∃ b ∈ List.replicate 12 (4#8 : Byte), 3 < b.toNat)
      ∧ 11 < (12#8 : Byte).toNat ∧ (11#8 : Byte).toNat = (11 : Group).val ∧ (0#8 : Byte).toNat = 0
      ∧ 48 < (49#8 : Byte).toNat ∧ (48#8 : Byte).toNat = (47 : ClassNo).val + 1 :=
  ⟨ready _, by decide⟩

theorem witness_ProgramsWrittenAndRead :
    yard.Ready .office ∧ [0#8].length ≠ 18 * (0#8 : Byte).toNat ∧ ([] : List Byte).length = 18 * (0#8 : Byte).toNat
      ∧ (List.replicate 18 0#8).length = 18 * (1#8 : Byte).toNat ∧ BadPhase (List.replicate 18 0#8)
      ∧ 16 < (17#8 : Byte).toNat ∧ (16#8 : Byte).toNat = (15 : ProgramNo).val + 1
      ∧ (List.replicate 8 rinse).length ≤ 8 ∧ (∀ ph ∈ [rinse, final], ph.InRange) ∧ rinse.endpoint = none
      ∧ (∃ r : RecordRef, ∃ c ∈ yard.ret.pool[r], c.Washing 0)
      ∧ (∀ r : RecordRef, ∀ c ∈ yard.ret.pool[r], ¬ c.Washing 15) :=
  ⟨ready _, by decide, by decide, by decide, by intro k _ _ _ _ _ _ _ _ _ _ _ _ _ _ _ _ _ h; cases h; exact .inl rfl,
    by decide⟩

/-- The yard with one cell throughout the follow matrix. -/
def withCells (x : Cell) : State :=
  { yard with ret := { yard.ret with follow := Vector.replicate 12 (Vector.replicate 12 x) } }

theorem withCells_ready (x : Cell) : (withCells x).Ready .office :=
  ⟨rfl, rfl, rfl, by simp [withCells, yard, Active.start]⟩

theorem witness_AssessmentOfAnIntent :
    yard.ret.classes[(47 : ClassNo)] = none ∧ (∃ d ∈ yard.ret.classes[(0 : ClassNo)], d.grade = .food
        ∧ (withCells .barred).ret.cellFor d.group 1 = .barred
        ∧ (∀ k ∈ [(1 : ClassNo), 0], yard.ret.cellFor d.group k ≠ .barred))
      ∧ [(1 : ClassNo), 0] = [] ++ 1 :: [0] ∧ (yard.ret.classes[(1 : ClassNo)]).map (·.grade) = some .technical := by
  decide

theorem witness_SetIntentActsByState :
    let office (s : State) (n : Byte) (r : RecordRef) := s.nameAtSlot (1#8 : Byte).toNat n.toNat = .ok (named 0 r)
    yard.Ready .office ∧ yard.IsOpen ∧ office yard 1#8 0 ∧ office yard 2#8 1 ∧ office yard 3#8 2 ∧ office yard 4#8 3
      ∧ (named 0 0).record.state = .running ∧ (named 0 1).record.state = .dirty ∧ (named 0 2).record.state = .washed
      ∧ (named 0 3).record.state = .released ∧ (named 0 2).record.summary = some washSummary
      ∧ (48#8 : Byte).toNat = (47 : ClassNo).val + 1 ∧ 48 < (49#8 : Byte).toNat
      ∧ yard.ret.assess [0] 47 = .undefinedClass ∧ (withCells .barred).ret.assess [0] 0 = .barred 0
      ∧ { yard.ret with programs := Vector.replicate 16 [] }.assess [0] 0 = .emptyProgram
      ∧ yard.ret.assess [0] 0 = .demands .wash (some 0) ∧ (withCells .noWash).ret.assess [0] 0 = .demands .noWash none
      ∧ (withCells .deep).ret.assess [0] 0 = .demands .deep (some 0)
      ∧ Demand.wash.code ≤ washSummary.kind.code ∧ washSummary.kind.code < Demand.deep.code :=
  ⟨ready _, rfl, rfl, rfl, rfl, rfl, by decide⟩

/-- The yard with bay 1's wash unit idle and its one running wash gone. -/
def bayOneIdle : State := withUnit 0 WashUnit.start

theorem witness_StartWashQueuesPhaseOne :
    let named1 (s : State) (n : Byte) (r : RecordRef) := s.nameBound (.bay 0) n.toNat = .ok (named 0 r)
    yard.Ready (.bay 0) ∧ bayOneIdle.Ready (.bay 0) ∧ yard.IsOpen ∧ named1 yard 3#8 2 ∧ named1 yard 2#8 1
      ∧ named1 bayOneIdle 2#8 1 ∧ (named 0 2).record.state ≠ .dirty ∧ (named 0 1).record.state = .dirty
      ∧ (named 0 1).record.demand = some .wash ∧ (yard.act.units[(0 : Bay)]).active ≠ none
      ∧ (bayOneIdle.act.units[(0 : Bay)]).active = none ∧ (bayOneIdle.hold (.bay 0)).nonEmpty = false
      ∧ (bayOneIdle.setHold (.bay 0) ⟨noneOf 16, true⟩ |>.hold (.bay 0)).nonEmpty = true
      ∧ (named 0 1).record.program = some 0 ∧ bayOneIdle.ret.programs[(0 : ProgramNo)] = [rinse, final]
      ∧ ({ bayOneIdle.ret with programs := Vector.replicate 16 [] } : Retained).programs[(0 : ProgramNo)] = [] :=
  ⟨ready _, ⟨rfl, rfl, rfl, by decide⟩, rfl, rfl, rfl, rfl, by decide⟩

theorem witness_PhaseGoQueuesTheNextPhase :
    yard.Ready (.bay 0) ∧ yard.Ready (.bay 2) ∧ yard.IsOpen
      ∧ yard.nameBound (.bay 0) (1#8 : Byte).toNat = .ok (named 0 0) ∧ (named 0 0).record.state ≠ .handover
      ∧ yard.nameBound (.bay 2) (1#8 : Byte).toNat = .ok (named 2 5) ∧ (named 2 5).record.state = .handover
      ∧ yard.OnlyUnit 2 5 ∧ (∃ p ∈ (named 2 5).record.progress, 1 ≤ p.phaseIndex
          ∧ (yard.ret.programs[(0 : ProgramNo)])[p.phaseIndex]? = some final)
      ∧ (named 2 5).record.program = some 0 :=
  ⟨ready _, ready _, rfl, rfl, by decide, rfl, by decide⟩

theorem witness_AbortAndCancelEndTheWash :
    yard.IsOpen ∧ yard.Ready (.bay 0) ∧ yard.Ready .office
      ∧ yard.nameBound (.bay 0) (1#8 : Byte).toNat = .ok (named 0 0)
      ∧ yard.nameAtSlot (1#8 : Byte).toNat (1#8 : Byte).toNat = .ok (named 0 0)
      ∧ (named 0 0).record.state.isWash = true ∧ yard.OnlyUnit 0 0
      ∧ yard.nameBound (.bay 0) (2#8 : Byte).toNat = .ok (named 0 1)
      ∧ yard.nameAtSlot (1#8 : Byte).toNat (2#8 : Byte).toNat = .ok (named 0 1)
      ∧ (named 0 1).record.state.isWash = false :=
  ⟨rfl, ready _, ready _, rfl, rfl, by decide, by decide, rfl, rfl, by decide⟩

/-- The running compartment of the yard, with the progress given. -/
def running (p : Progress) : Compartment := { compartment 1 .running with progress := some p }

/-- The yard whose running compartment has the progress and the phase given. -/
def runningYard (p : Progress) (ph : Phase) : State :=
  { yard with ret := { yard.ret with
    pool := yard.ret.pool.set 0 (some (running p))
    programs := yard.ret.programs.set 0 [ph, final] } }

/-- Bay 1's compartment runs there in that phase. -/
theorem runningYard_runs (p : Progress) (ph : Phase) (h : p.phaseIndex = 1) :
    (runningYard p ph).Runs 0 0 (running p) p ph :=
  ⟨rfl, rfl, rfl, rfl, by simp [h], 0, rfl, by simp only [h]; rfl⟩

theorem yard_runs : yard.Runs 0 0 (running (atPhaseOne 2 [] none)) (atPhaseOne 2 [] none) rinse :=
  ⟨rfl, rfl, rfl, rfl, by decide, 0, rfl, rfl⟩

theorem witness_PhaseTimerTicksAndExpires :
    yard.mainPower = true ∧ yard.NotRunning 1
      ∧ (∃ r c p ph, yard.Runs 0 r c p ph ∧ p.runningTime < ph.maxDuration)
      ∧ (yard.act.units[(0 : Bay)]).phaseTimer = true
      ∧ (∃ s : State, ∃ r c p ph, s.Runs 0 r c p ph ∧ s.mainPower = true ∧ (s.act.units[(0 : Bay)]).phaseTimer = true
          ∧ ph.maxDuration ≤ p.runningTime) :=
  ⟨rfl, by decide, ⟨_, _, _, _, yard_runs, by decide⟩, by decide,
    runningYard { atPhaseOne 2 [] none with runningTime := 600 } rinse, _, _, _, _, runningYard_runs _ _ rfl, rfl,
    by decide⟩

theorem witness_WashTimersExpire :
    yard.mainPower = true ∧ (yard.act.units[(0 : Bay)]).handoverTimer = none
      ∧ (yard.act.units[(0 : Bay)]).reEntryTimer = none ∧ (yard.act.units[(0 : Bay)]).holdTimer = none
      ∧ (yard.act.units[(2 : Bay)]).active = some 5 ∧ (yard.ret.pool[(5 : RecordRef)]).map (·.state) = some .handover
      ∧ (yard.act.units[(2 : Bay)]).handoverTimer ≠ none
      ∧ (yard.act.units[(1 : Bay)]).active = some 4 ∧ (yard.ret.pool[(4 : RecordRef)]).map (·.state) = some .queued
      ∧ ((withUnit 1 { yard.act.units[(1 : Bay)] with reEntryTimer := some 120 }).act.units[(1 : Bay)]).reEntryTimer
        ≠ none
      ∧ (yard.act.units[(3 : Bay)]).active = some 6 ∧ (yard.ret.pool[(6 : RecordRef)]).map (·.state) = some .held
      ∧ (yard.act.units[(3 : Bay)]).holdTimer ≠ none := by decide

theorem witness_HoldAndResume :
    heldYard.mainPower = true ∧ (bayOneIdle.act.units[(0 : Bay)]).active = none
      ∧ (heldYard.hold (.bay 0)).nonEmpty = true ∧ (heldYard.act.units[(0 : Bay)]).active = some 0
      ∧ (∃ c ∈ heldYard.ret.pool[(0 : RecordRef)], c.state = .running ∧ c.progress.isSome = true)
      ∧ (∃ c ∈ heldYard.ret.pool[(4 : RecordRef)], c.state = .queued ∧ c.progress.isSome = true)
      ∧ (yard.hold (.bay 3)).nonEmpty = false ∧ (yard.act.units[(3 : Bay)]).active = some 6
      ∧ (∃ c ∈ yard.ret.pool[(6 : RecordRef)], c.state = .held ∧ ∃ p ∈ c.progress, p.heldFrom = some .running
          ∧ 1 ≤ p.phaseIndex ∧ c.program = some 0
          ∧ (yard.ret.programs[(0 : ProgramNo)])[p.phaseIndex - 1]? = some rinse)
      ∧ (∃ c ∈ (withRecord 6 { compartment 1 .held with
            progress := some (atPhaseOne 0 [50] (some .handover)) }).ret.pool[(6 : RecordRef)],
          c.state = .held ∧ ∃ p ∈ c.progress, p.heldFrom = some .handover) := by decide

/-- The yard with the arbiter given. -/
def withArbiter (a : Arbiter) : State := { yard with act := { yard.act with arbiter := a } }

theorem witness_GrantOfTheScan :
    let head : QueueEntry := ⟨1, 4, 4, false, 2⟩
    let later : QueueEntry := ⟨3, 6, 2, false, 0⟩
    (loop 8 2 [head]).ScanPicks head false ∧ (loop 8 6 [head, later]).ScanPicks later true
      ∧ (loop 8 0 []).sent = none ∧ (loop 8 0 []).pick = none ∧ (loop 8 7 [head, later]).pick = none
      ∧ (loop 8 6 [{ head with passCount := 3 }, later]).pick = none
      ∧ ({ loop 8 2 [head] with recovery := true } : Arbiter).pick = none
      ∧ yard.act.arbiter.sent = some 4 ∧ (withArbiter (loop 8 2 [head])).mainPower = true
      ∧ (∃ c ∈ yard.ret.pool[(4 : RecordRef)], c.state = .queued ∧ c.program = some 0
          ∧ ∃ p ∈ c.progress, p.phaseIndex = 1 ∧ (yard.ret.programs[(0 : ProgramNo)])[p.phaseIndex - 1]? = some rinse)
      ∧ (∀ c ∈ yard.ret.pool[(5 : RecordRef)], c.state ≠ .queued)
      ∧ yard.act.arbiter.queue = [] ++ ⟨1, 4, 2, false, 0⟩ :: [] ∧ (2 : Nat) ≤ 8 - 2
      ∧ (loop 8 6 [later, head]).queue = [later] ++ head :: [] ∧ (∀ x ∈ [later] ++ [], x.ref ≠ 4)
      ∧ 8 - 6 < head.shares ∧ (∀ x ∈ (loop 8 0 [later]).queue, x.ref ≠ 4) := by
  simp only [← Arbiter.pick_iff]
  decide

theorem witness_IntervalCloseAccrues :
    yard.mainPower = true ∧ yard.NotRunning 1
      ∧ (∃ r c p ph, yard.Runs 0 r c p ph ∧ c.demand = some .wash ∧ ph.basis = .thermal
          ∧ ¬ CompletionTest .wash ph { p with dose := 99 } ∧ CompletionTest .wash ph { p with dose := 100 })
      ∧ (yard.act.units[(0 : Bay)]).intervalTimer = true ∧ (yard.act.units[(0 : Bay)]).intervalK = some 10
      ∧ (∀ x ∈ (yard.act.units[(0 : Bay)]).supply, x.age < 2000)
      ∧ (∀ x ∈ ((withUnit 0 { yard.act.units[(0 : Bay)] with supply := some ⟨150, 2000⟩ }).act.units[(0 : Bay)]).supply,
          2000 ≤ x.age)
      ∧ (∃ s : State, ∃ r c p ph, s.Runs 0 r c p ph ∧ s.mainPower = true ∧ ph.basis = .volume
          ∧ (s.act.units[(0 : Bay)]).intervalTimer = true ∧ (s.act.units[(0 : Bay)]).intervalK = some 10
          ∧ ¬ CompletionTest .wash ph { p with endpointCount := 3 }
          ∧ CompletionTest .wash ph { p with endpointCount := 4 }) :=
  ⟨rfl, by decide, ⟨_, _, _, _, yard_runs, rfl, rfl, by decide⟩, by decide, by decide, by decide, by decide,
    runningYard (atPhaseOne 2 [] none) final, _, _, _, _, runningYard_runs _ _ rfl, rfl, rfl, by decide⟩

/-- The yard whose converter has come to a channel, with an endpoint in the running phase. -/
def atChannel (ch : Probe) : State :=
  let s := runningYard (atPhaseOne 2 [] none) final
  { s with act := { s.act with scanNext := ch } }

theorem witness_ConductivitySampleApplied :
    (atChannel 1).mainPower = true ∧ (1 : Probe).val = (0 : Bay).val + 1 ∧ (atChannel 1).act.scanNext = 1
      ∧ (4 : Probe).val = (3 : Bay).val + 1 ∧ (atChannel 4).act.scanNext = 4 ∧ (atChannel 4).NotRunning 3
      ∧ (atChannel 1).Runs 0 0 (running (atPhaseOne 2 [] none)) (atPhaseOne 2 [] none) final
      ∧ final.endpoint = some ⟨100, 4⟩ ∧ (running (atPhaseOne 2 [] none)).demand = some .wash
      ∧ (∃ c p ph, yard.Runs 0 0 c p ph ∧ ph.endpoint = none)
      ∧ ¬ ((0 : Code).val ≠ 0 ∧ (0 : Code).val ≠ 1023) ∧ ¬ ((1023 : Code).val ≠ 0 ∧ (1023 : Code).val ≠ 1023)
      ∧ ((51 : Code).val - 1) * 2 = 100 ∧ 100 < ((52 : Code).val - 1) * 2 ∧ (atChannel 1).ret.hysteresis = 10
      ∧ ((56 : Code).val - 1) * 2 = 100 + 10 ∧ 100 + 10 < ((57 : Code).val - 1) * 2
      ∧ ¬ CompletionTest .wash final { atPhaseOne 2 [] none with endpointCount := 1 }
      ∧ CompletionTest .wash final { atPhaseOne 2 [] none with endpointCount := 4 } :=
  ⟨rfl, rfl, rfl, rfl, rfl, by decide, ⟨rfl, rfl, rfl, rfl, by decide, 0, rfl, rfl⟩,
    rfl, rfl, ⟨_, _, _, yard_runs, rfl⟩, by decide⟩

theorem witness_ConversionDelivered :
    yard.mainPower = true ∧ yard.act.scanNext = 0 ∧ yard.act.scanNext ≠ 5 ∧ (atChannel 5).act.scanNext = 5
      ∧ ((1 : Code).val ≠ 0 ∧ (1 : Code).val ≠ 1023) ∧ ¬ ((1023 : Code).val ≠ 0 ∧ (1023 : Code).val ≠ 1023)
      ∧ (atChannel 5).ret.pressureMinimum = 250 ∧ (250 : Code).val - 1 < 250 ∧ (251 : Code).val - 1 = 250
      ∧ (270 : Code).val - 1 < 250 + 20 ∧ 250 + 20 ≤ (271 : Code).val - 1 := by decide

/-- The yard with a pulse channel given. -/
def withPulse (m : Position) (x : PulseChannel) : State :=
  { yard with act := { yard.act with pulses := yard.act.pulses.set m.index x } }

theorem witness_PulseSampleFilteredAndCounted :
    yard.mainPower = true ∧ ((yard.act.pulses[(Position.bay 0).index]).filter = ⟨.low, 0⟩)
      ∧ yard.ret.pulseFilter (.bay 0) = 4 ∧ 0 + 1 < yard.ret.pulseFilter (.bay 0)
      ∧ ((withPulse (.bay 0) ⟨⟨.low, 3⟩, 65535⟩).act.pulses[(Position.bay 0).index]) = ⟨⟨.low, 3⟩, 65535⟩
      ∧ ((withPulse .rack ⟨⟨.high, 3⟩, 0⟩).act.pulses[Position.rack.index]) = ⟨⟨.high, 3⟩, 0⟩
      ∧ yard.ret.pulseFilter .rack ≤ 3 + 1 ∧ yard.NotRunning 1
      ∧ ∃ r c p ph, (withPulse (.bay 0) ⟨⟨.low, 3⟩, 65535⟩).Runs 0 r c p ph :=
  ⟨rfl, by decide, by decide, by decide, by decide, by decide, by decide, by decide,
    _, _, _, _, ⟨rfl, rfl, rfl, rfl, by decide, 0, rfl, rfl⟩⟩

theorem witness_SweepTickMovesTheSweep :
    let ph (low high step : Nat) : Phase := { rinse with sweepLow := low, sweepHigh := high, sweepStep := step }
    yard.mainPower = true ∧ (yard.act.outputs[(1 : Bay)]).generator = none
      ∧ (yard.act.outputs[(0 : Bay)]).generator = some ⟨100, .up⟩
      ∧ (∀ low high step, ∃ r c p, (runningYard (atPhaseOne 2 [] none) (ph low high step)).Runs 0 r c p
          (ph low high step))
      ∧ ((runningYard (atPhaseOne 2 [] none) (ph 100 4000 50)).act.outputs[(0 : Bay)]).generator = some ⟨100, .up⟩
      ∧ (100 + 50 < 151 ∧ 150 ≤ 100 + 50)
      ∧ ((yard.sweepAt 0 100 .down).act.outputs[(0 : Bay)]).generator = some ⟨100, .down⟩
      ∧ (∃ r c p ph, (yard.sweepAt 0 100 .down).Runs 0 r c p ph ∧ ph.sweepStep ≠ 0)
      ∧ (49 + 50 < 100 ∧ 100 ≤ 50 + 50) :=
  ⟨rfl, by decide, by decide, fun _ _ _ => ⟨_, _, _, runningYard_runs _ _ rfl⟩, by decide, by decide, by decide,
    ⟨_, _, _, _, ⟨rfl, rfl, rfl, rfl, by decide, 0, rfl, rfl⟩, by decide⟩, by decide⟩

theorem witness_InspectPassReleases :
    yard.Ready (.bay 0) ∧ yard.IsOpen ∧ yard.nameBound (.bay 0) (3#8 : Byte).toNat = .ok (named 0 2)
      ∧ (named 0 2).record.state = .washed ∧ (named 0 2).record.intent = some 0
      ∧ yard.nameBound (.bay 0) (1#8 : Byte).toNat = .ok (named 0 0) ∧ (named 0 0).record.state ≠ .washed
      ∧ number [0#8, 0#8] = 0 ∧ 9999 < number [39#8, 16#8] ∧ number [39#8, 15#8] ≤ 9999 ∧ 1 ≤ number [0#8, 1#8] :=
  ⟨ready _, rfl, rfl, by decide, by decide, rfl, by decide⟩

theorem witness_InspectFailSendsBack :
    let washedNone (history : List ClassNo) : Compartment := { compartment 3 .washed with
      history := history, demand := some .noWash, program := none, summary := some ⟨.noWash, [], none⟩ }
    yard.Ready (.bay 0) ∧ yard.IsOpen ∧ yard.nameBound (.bay 0) (3#8 : Byte).toNat = .ok (named 0 2)
      ∧ 1 < (2#8 : Byte).toNat ∧ (1#8 : Byte).toNat ≤ 1 ∧ (named 0 2).record.state = .washed
      ∧ (named 0 2).record.demand = some .wash
      ∧ yard.nameBound (.bay 0) (1#8 : Byte).toNat = .ok (named 0 0) ∧ (named 0 0).record.state ≠ .washed
      ∧ (withRecord 2 (washedNone [0])).nameBound (.bay 0) 3 = .ok ⟨0, 2, washedNone [0]⟩
      ∧ (withRecord 2 (washedNone [])).nameBound (.bay 0) 3 = .ok ⟨0, 2, washedNone []⟩
      ∧ (washedNone []).demand = some .noWash ∧ (washedNone []).intent = some 0 :=
  ⟨ready _, rfl, rfl, by decide, by decide, by decide, by decide, rfl, by decide, rfl, rfl, rfl, rfl⟩

theorem witness_VoidReleaseAndEmptied :
    yard.Ready .office ∧ yard.nameAtSlot (1#8 : Byte).toNat (4#8 : Byte).toNat = .ok (named 0 3)
      ∧ (named 0 3).record.state = .released ∧ (named 0 3).record.release = some (release 43200)
      ∧ yard.nameAtSlot (5#8 : Byte).toNat (3#8 : Byte).toNat = .ok (named 4 9) ∧ (named 4 9).record.state = .laden
      ∧ (named 4 9).record.state ≠ .released ∧ (named 0 3).record.state ≠ .laden :=
  ⟨ready _, rfl, by decide, by decide, rfl, by decide⟩

/-- The yard with a lapse on its way for a record. -/
def lapsing (r : RecordRef) : State := { yard with act := { yard.act with lapsesDue := (noneOf 64).set r true } }

theorem witness_ReleaseTimerLapses :
    yard.mainPower = true ∧ yard.act.releaseTimer = true ∧ State.reset.act.releaseTimer = false
      ∧ yard.act.lapsesDue[(8 : RecordRef)] = false ∧ (lapsing 8).act.lapsesDue[(8 : RecordRef)] = true
      ∧ (lapsing 63).act.lapsesDue[(63 : RecordRef)] = true
      ∧ (∀ c ∈ (lapsing 63).ret.pool[(63 : RecordRef)], c.state ≠ .released)
      ∧ (∃ c ∈ (lapsing 8).ret.pool[(8 : RecordRef)], c.state = .released
          ∧ ∃ x ∈ c.release, x.deadline ≤ yard.ret.clock)
      ∧ (∃ c ∈ yard.ret.pool[(3 : RecordRef)], c.state = .released ∧ ∃ x ∈ c.release, yard.ret.clock < x.deadline) := by
  decide

theorem witness_YardClockSetAndCounts :
    yard.Ready .office ∧ yard.ret.markerValid = true
      ∧ ({ yard with ret := { yard.ret with markerValid := false } } : State).ret.markerValid = false :=
  ⟨ready _, rfl, rfl⟩

/-- The yard with the rack's fill gone, so that another may start. -/
def rackIdle : State :=
  { withRecord 7 (compartment 1 .dirty) with act := { yard.act with fillUnit := ⟨none, false⟩ } }

theorem witness_FillStartOpensTheFill :
    yard.Ready .rack ∧ rackIdle.Ready .rack ∧ heldYard.Ready .rack ∧ yard.IsOpen
      ∧ (heldYard.hold .rack).nonEmpty = true ∧ (yard.hold .rack).nonEmpty = false
      ∧ heldYard.nameBound .rack 2 = .ok (named 4 8) ∧ yard.nameBound .rack 2 = .ok (named 4 8)
      ∧ (∃ r : RecordRef, ∃ c ∈ yard.ret.pool[r], c.state = .filling)
      ∧ (∀ r : RecordRef, ∀ c ∈ rackIdle.ret.pool[r], c.state ≠ .filling) ∧ (rackIdle.hold .rack).nonEmpty = false
      ∧ rackIdle.nameBound .rack 3 = .ok (named 4 9) ∧ (named 4 9).record.state ≠ .released
      ∧ rackIdle.nameBound .rack 2 = .ok (named 4 8) ∧ (named 4 8).record.state = .released
      ∧ (named 4 8).record.release = some (release 99) ∧ (release 99).deadline ≤ rackIdle.ret.clock
      ∧ ({ rackIdle with ret := { rackIdle.ret with clock := 98 } } : State).ret.clock < (release 99).deadline
      ∧ (1#8 : Byte).toNat = (release 99).releasedFor.val + 1 ∧ (2#8 : Byte).toNat ≠ (release 99).releasedFor.val + 1
      ∧ number [0#8, 0#8] = 0 ∧ 0 < number [0#8, 1#8] ∧ number [1#8, 244#8] = (named 4 8).record.capacity :=
  ⟨ready _, ⟨rfl, rfl, rfl, by decide⟩, heldYard_ready _, rfl, by decide, by decide, rfl, rfl, by decide, by decide,
    by decide, rfl, by decide, rfl, by decide⟩

/-- The yard with the fill's count and marks given, one sample short of a counted pulse. -/
def nearPulse (counted : Nat) (reached overfilled : Bool) : State :=
  { withRecord 7 { compartment 1 .filling with
      summary := some washSummary
      release := some (release 43200)
      fill := some ⟨0, 500, counted, none, ⟨false, reached, overfilled, false, false, false, false⟩⟩ } with
    act := { yard.act with
      pulses := yard.act.pulses.set 4 ⟨⟨.low, 3⟩, 65535⟩
      fillUnit := ⟨some 7, true⟩ } }

theorem witness_RackPulseCountsTheFill :
    let ch (s : State) := s.act.pulses[(4 : Fin 5)]
    let s := nearPulse 4980 false false
    s.mainPower = true ∧ (ch s).filter.accepted = .low ∧ s.ret.pulseFilter .rack ≤ (ch s).filter.run + 1
      ∧ (ch s).total ≤ 65535 ∧ s.act.fillUnit.active = some 7 ∧ s.ret.meterConstant .rack = 10
      ∧ (∃ c ∈ s.ret.pool[(7 : RecordRef)], c.state = .filling ∧ ∃ f ∈ c.fill,
          ¬ f.preset * 10 ≤ f.counted + 10 ∧ ¬ c.capacity * 10 < f.counted + 10)
      ∧ (∃ c ∈ (nearPulse 4990 false false).ret.pool[(7 : RecordRef)], c.state = .filling ∧ ∃ f ∈ c.fill,
          f.preset * 10 ≤ f.counted + 10 ∧ f.marks.presetReached = false ∧ ¬ c.capacity * 10 < f.counted + 10)
      ∧ (∃ c ∈ (nearPulse 5000 true false).ret.pool[(7 : RecordRef)], c.state = .filling ∧ ∃ f ∈ c.fill,
          f.marks.presetReached = true ∧ c.capacity * 10 < f.counted + 10 ∧ f.marks.overfill = false)
      ∧ s.act.fillUnit.stopDue = true ∧ yard.act.fillUnit.stopDue = false
      ∧ ({ s with act := { s.act with fillUnit := ⟨none, true⟩ } } : State).act.fillUnit.active = none
      ∧ (∃ c ∈ yard.ret.pool[(9 : RecordRef)], c.state ≠ .filling) := by decide

theorem witness_FillEndAndAbortCloseTheFill :
    yard.Ready .rack ∧ yard.IsOpen ∧ yard.nameBound .rack (1#8 : Byte).toNat = .ok (named 4 7)
      ∧ (named 4 7).record.state = .filling ∧ (∃ f ∈ (named 4 7).record.fill, 0 < f.counted)
      ∧ (∃ c ∈ (nearPulse 0 false false).ret.pool[(7 : RecordRef)], c.state = .filling ∧ ∃ f ∈ c.fill, f.counted = 0)
      ∧ yard.nameBound .rack (2#8 : Byte).toNat = .ok (named 4 8) ∧ (named 4 8).record.state ≠ .filling :=
  ⟨ready _, rfl, rfl, by decide, by decide, by decide, rfl, by decide⟩

/-- The yard with a line's filter given. -/
def withLine (l : Line) (f : Filter) : State :=
  { yard with act := { yard.act with lines := yard.act.lines.set l f } }

theorem witness_LineSampleFilteredAndActs :
    let e := yard.ret.routes[(15 : Line)]
    yard.mainPower = true ∧ (yard.act.lines[(15 : Line)]) = ⟨.high, 0⟩ ∧ e.filterN = 4 ∧ 0 + 1 < e.filterN
      ∧ ((withLine 15 ⟨.high, 3⟩).act.lines[(15 : Line)]) = ⟨.high, 3⟩ ∧ e.filterN ≤ 3 + 1
      ∧ e.polarity = .activeLow ∧ e.masked = false ∧ ({ e with masked := true } : Route).masked = true
      ∧ ((withLine 15 ⟨.low, 3⟩).act.lines[(15 : Line)]).accepted = .low := by decide

/-- The yard with its wash and its fill gone, so that a route may be written, and line 15 low. -/
def quiet : State :=
  let s := withLine 15 ⟨.low, 0⟩
  { s with ret := { s.ret with
    pool := (s.ret.pool.set 0 (some (compartment 1 .dirty))).set 7 (some (compartment 1 .dirty)) } }

theorem witness_WriteRouteReplacesTheEntry :
    let e : Route := ⟨false, .activeLow, .edge, .holdBay 3, Vector.ofFn (fun j => (63#8 : Byte).getLsbD j.val), 8⟩
    yard.Ready .office ∧ quiet.Ready .office ∧ 15 < (16#8 : Byte).toNat ∧ 63 < (64#8 : Byte).toNat
      ∧ ¬ OneTwoFourEight (3#8 : Byte).toNat ∧ (15#8 : Byte).toNat = (15 : Line).val
      ∧ (4#8 : Byte).toNat = (3 : Bay).val + 1 ∧ (63#8 : Byte).toNat < 64
      ∧ (∀ j : Fin 6, e.notify[j] = (63#8 : Byte).getLsbD j.val) ∧ (8#8 : Byte).toNat = e.filterN
      ∧ OneTwoFourEight e.filterN
      ∧ (∃ r : RecordRef, ∃ c ∈ yard.ret.pool[r], c.state = .running ∨ c.state = .filling)
      ∧ (∀ r : RecordRef, ∀ c ∈ quiet.ret.pool[r], ¬ (c.state = .running ∨ c.state = .filling))
      ∧ (quiet.ret.routes[(15 : Line)]).masked = false ∧ (quiet.act.lines[(15 : Line)]).accepted = .low
      ∧ (quiet.act.lines[(14 : Line)]).accepted = .high :=
  ⟨ready _, ⟨rfl, rfl, rfl, by decide⟩, by decide⟩

/-- The yard with line 0 in bay 1's hold set, and active or not. -/
def lineHeld (level : Level) : State :=
  let s := withLine 0 ⟨level, 0⟩
  { s with act := { s.act with holds := s.act.holds.set 0 ⟨(noneOf 16).set 0 true, false⟩ } }

theorem witness_ResumeEmptiesAHoldSet :
    (lineHeld .low).Ready (.bay 0) ∧ (lineHeld .high).Ready .office ∧ (lineHeld .low).IsOpen
      ∧ ((lineHeld .low).act.holds[(Position.bay 0).index]).lines[(0 : Line)] = true
      ∧ ((lineHeld .low).act.lines[(0 : Line)]).accepted = .low
      ∧ ((lineHeld .low).ret.routes[(0 : Line)]).polarity = .activeLow
      ∧ (∀ l : Line, ((lineHeld .high).act.holds[(Position.bay 0).index]).lines[l] = true →
          ((lineHeld .high).act.lines[l]).accepted ≠ .low)
      ∧ (0#8 : Byte).toNat = 0 ∧ 5 < (6#8 : Byte).toNat ∧ (4#8 : Byte).toNat = (3 : Bay).val + 1
      ∧ (5#8 : Byte).toNat = 5 :=
  ⟨⟨rfl, rfl, rfl, by decide⟩, ⟨rfl, rfl, rfl, by decide⟩, rfl, by decide⟩

theorem witness_EventsReadAndLinesAcknowledged :
    let e := (withLine 15 ⟨.low, 0⟩).ret.routes[(15 : Line)]
    yard.Ready .office ∧ (withLine 15 ⟨.low, 0⟩).Ready .office ∧ 15 < (16#8 : Byte).toNat
      ∧ (∀ r : RecordRef, ((yard.notify 4).act.notices[Port.office.index]).changed[r] = true → yard.ret.pool[r] ≠ none)
      ∧ ((yard.notify 4).act.notices[Port.office.index]).changed[(4 : RecordRef)] = true
      ∧ (15#8 : Byte).toNat = (15 : Line).val ∧ e.trigger = .level ∧ e.masked = false
      ∧ e.notify[Port.office.index] = true ∧ e.polarity = .activeLow
      ∧ ((withLine 15 ⟨.low, 0⟩).act.lines[(15 : Line)]).accepted = .low
      ∧ (yard.act.lines[(15 : Line)]).accepted = .high :=
  ⟨ready _, ⟨rfl, rfl, rfl, by decide⟩, by decide⟩

theorem witness_ReadsReportWhatStands :
    yard.Ready (.bay 3) ∧ yard.Ready .rack ∧ yard.Ready .office ∧ 15 < (16#8 : Byte).toNat
      ∧ (15#8 : Byte).toNat = (15 : Line).val ∧ 25 < (26#8 : Byte).toNat ∧ (0#8 : Byte).toNat = 0
      ∧ (25#8 : Byte).toNat = (24 : Fin 25).val + 1 :=
  ⟨ready _, ready _, ready _, by decide⟩

theorem witness_WriteSettingStoresAndActs :
    yard.Ready .office ∧ (0#8 : Byte).toNat = 0 ∧ 25 < (26#8 : Byte).toNat
      ∧ (1#8 : Byte).toNat = (0 : Fin 25).val + 1 ∧ settingHigh 0 < number [0#8, 13#8] ∧ settingHigh 0 = 12
      ∧ number [0#8, 12#8] ≤ settingHigh 0 ∧ number [0#8, 0#8] < settingLow 0 ∧ settingLow 0 ≤ number [0#8, 1#8]
      ∧ (13#8 : Byte).toNat = (12 : Fin 25).val + 1 ∧ OneTwoFourEight 4 ∧ number [0#8, 3#8] ≤ 4
      ∧ (∀ u, OneTwoFourEight u → number [0#8, 3#8] ≤ u → 4 ≤ u)
      ∧ (∀ u, OneTwoFourEight u → number [0#8, 9#8] ≤ u → 8 ≤ u)
      ∧ (25#8 : Byte).toNat = (24 : Fin 25).val + 1 ∧ (yard.act.outputs[(3 : Bay)]).generator = none :=
  ⟨ready _, by decide, by decide, by decide, by decide, by decide, by decide, by decide, by decide, by decide,
    by decide, by decide, by rintro u (rfl | rfl | rfl | rfl) h <;> revert h <;> decide,
    by rintro u (rfl | rfl | rfl | rfl) h <;> revert h <;> decide, by decide⟩

theorem witness_OpenYardAndYardReset :
    yard.Ready .office ∧ yard.act.mode = .opened ∧ closed.Ready .office ∧ closed.act.mode = .recovery
      ∧ (∃ c ∈ closed.ret.pool[(8 : RecordRef)], c.state = .released
        ∧ ∃ x ∈ c.release, x.deadline ≤ closed.ret.clock) :=
  ⟨ready _, rfl, closed_ready _, rfl, by decide⟩

theorem witness_TheThreeStarts :
    let unpowered (valid : Bool) : State :=
      { yard with ret := { yard.ret with markerValid := valid }, mainPower := false }
    (unpowered false).mainPower = false ∧ (unpowered false).ret.markerValid = false
      ∧ (unpowered true).ret.markerValid = true ∧ yard.mainPower = true ∧ yard.act.yardReset = .idle
      ∧ ({ yard with act := { yard.act with yardReset := .due } } : State).act.yardReset ≠ .idle
      ∧ ({ yard with act := { yard.act with yardReset := .answering } } : State).act.yardReset ≠ .idle := by decide

theorem witness_LosingASupply :
    yard.mainPower = true ∧ ({ yard with mainPower := false } : State).mainPower = false := by decide

end Sys2Proof.Tests
end

section
/-! # The laws of the yard table, its records and its notices, through the model's operations

`State.KeepsYard` says of two states that the second keeps the three laws if the first does; each operation of the
model has one lemma saying so, and the three step theorems are read off the lemma for a step. -/

namespace Sys2Proof.Machine

variable {H : Prop} {s t u : State}

/-! ## One record's law -/

/-- What the law of the records says of one record in use (R4, R5, R23, R118, R132). -/
structure State.RecordFits (s : State) (c : Compartment) : Prop where
  low : 500 ≤ c.capacity
  high : c.capacity ≤ 30000
  history : c.history.length ≤ 3
  parts : c.PartsFit
  names : s.ret.NamesDefined c
  progress : ∀ p ∈ c.progress, s.ProgressFits c p
  summary : ∀ w ∈ c.summary, w.phaseDoses.length ≤ 8
  released : c.state = .released ∨ c.state = .filling → c.release.map (·.releasedFor) = c.intent
  fill : ∀ f ∈ c.fill, c.release.map (·.releasedFor) = some f.cargo ∧ 1 ≤ f.preset ∧ f.preset ≤ c.capacity
    ∧ f.counted ≤ 999999

/-- The law of the records is that each record in use fits. -/
theorem State.recordLaw_iff (s : State) :
    s.RecordLaw ↔ (s.ret.markerValid = true → ∀ (k : RecordRef) (c), s.ret.pool[k] = some c → s.RecordFits c) := by
  constructor
  · intro h hm k c hc
    obtain ⟨low, high, history, parts, names, progress, summary, released, fill⟩ := h hm k c hc
    exact ⟨low, high, history, parts, names, progress, summary, released, fill⟩
  · intro h hm k c hc
    obtain ⟨low, high, history, parts, names, progress, summary, released, fill⟩ := h hm k c hc
    exact ⟨low, high, history, parts, names, progress, summary, released, fill⟩

/-- A record's law reads the class and the program table only. -/
theorem State.RecordFits.of_tables {c : Compartment} (h : s.RecordFits c) (classes : t.ret.classes = s.ret.classes)
    (programs : t.ret.programs = s.ret.programs) : t.RecordFits c := by
  obtain ⟨low, high, history, parts, names, progress, summary, released, fill⟩ := h
  refine ⟨low, high, history, parts, ?_, ?_, summary, released, fill⟩
  · simpa only [Retained.NamesDefined, classes] using names
  · simpa only [State.ProgressFits, State.phaseCount, programs] using progress

/-! ## Keeping the three laws -/

/-- The laws of the notices, of the yard table and of the records pass from one state to another; the last under `H`,
which stands for the ranges (R28, R42) that some of the wash cycle's events rest on. -/
structure State.KeepsYard (H : Prop) (s t : State) : Prop where
  notices : s.PendingLaw → t.PendingLaw
  table : s.YardTableLaw → t.YardTableLaw
  records : H → s.RecordLaw → t.RecordLaw

namespace State.KeepsYard

theorem refl (s : State) : s.KeepsYard H s := ⟨id, id, fun _ => id⟩

theorem trans (h : s.KeepsYard H t) (h' : t.KeepsYard H u) : s.KeepsYard H u :=
  ⟨h'.notices ∘ h.notices, h'.table ∘ h.table, fun hH => h'.records hH ∘ h.records hH⟩

/-- The three laws read the retained domain, the notices and main power only. -/
theorem of_same (ret : t.ret = s.ret) (notices : t.act.notices = s.act.notices) (power : t.mainPower = s.mainPower) :
    s.KeepsYard H t := by
  obtain ⟨sret, sact, spower, _, _⟩ := s
  obtain ⟨tret, tact, tpower, _, _⟩ := t
  subst ret power
  refine ⟨?_, id, fun _ => id⟩
  intro h hp
  dsimp only at notices
  simpa only [notices] using h hp

/-- A fold of moves that each keep the laws keeps them. -/
theorem foldl {α : Type} (f : State → α → State) (l : List α) (h : ∀ (s : State), ∀ x ∈ l, s.KeepsYard H (f s x))
    (s : State) : s.KeepsYard H (l.foldl f s) := by
  induction l generalizing s with
  | nil => exact refl s
  | cons x xs ih =>
    exact (h s x (by simp)).trans (ih (fun s y hy => h s y (by simp [hy])) (f s x))

end State.KeepsYard

/-! ### What the law of the yard table reads: of a record whether it is in use and its number, of a tanker its token
and its list, and the bindings on both sides -/

/-- The law passes to a table with the same records in use, numbers, tokens and lists, when its bindings agree on both
sides (R1, R2, R3, R12). -/
theorem State.YardTableLaw.of_lists (h : s.YardTableLaw) (marker : t.ret.markerValid = s.ret.markerValid)
    (freeList : t.ret.freeList = s.ret.freeList)
    (numbers : ∀ k : RecordRef, (t.ret.pool[k]).map (·.number) = (s.ret.pool[k]).map (·.number))
    (lists : ∀ i : Slot, (t.ret.tankers[i]).map (fun x => (x.token, x.compartments))
      = (s.ret.tankers[i]).map (fun x => (x.token, x.compartments)))
    (bound : s.ret.markerValid = true → ∀ q : Fin 5, ∀ i ∈ t.ret.bindings[q],
      ∃ x ∈ t.ret.tankers[i], ∃ p ∈ x.binding, p.index = q)
    (binds : s.ret.markerValid = true → ∀ i : Slot, ∀ x ∈ t.ret.tankers[i], ∀ p ∈ x.binding,
      t.ret.bindings[p.index] = some i) : t.YardTableLaw := by
  intro hm
  have hm : s.ret.markerValid = true := marker ▸ hm
  have isSome (k : RecordRef) : (t.ret.pool[k]).isSome = (s.ret.pool[k]).isSome := by
    simpa using congrArg Option.isSome (numbers k)
  have isNone (k : RecordRef) : (t.ret.pool[k]).isNone = (s.ret.pool[k]).isNone := by
    simpa using congrArg Option.isNone (numbers k)
  have back (i : Slot) (x : Tanker) (hx : x ∈ t.ret.tankers[i]) :
      ∃ y ∈ s.ret.tankers[i], y.token = x.token ∧ y.compartments = x.compartments := by
    have := lists i
    rw [show t.ret.tankers[i] = some x from hx] at this
    obtain ⟨y, hy, e⟩ := Option.map_eq_some_iff.mp this.symm
    exact ⟨y, hy, congrArg Prod.fst e, congrArg Prod.snd e⟩
  obtain ⟨nodup, free, listed, own, apart, -, -⟩ := h hm
  rw [freeList]
  refine ⟨nodup, fun k => isNone k ▸ free k, ?_, ?_, ?_, bound hm, binds hm⟩
  · intro k hk
    obtain ⟨i, y, hy, hin⟩ := listed k (isSome k ▸ hk)
    have := lists i
    rw [show s.ret.tankers[i] = some y from hy] at this
    obtain ⟨x, hx, e⟩ := Option.map_eq_some_iff.mp this
    have hlist : x.compartments = y.compartments := congrArg Prod.snd e
    exact ⟨i, x, hx, hlist ▸ hin⟩
  · intro i x hx
    obtain ⟨y, hy, htoken, hlist⟩ := back i x hx
    obtain ⟨token, one, eight, once, numbered⟩ := own i y hy
    rw [htoken] at token
    rw [hlist] at one eight once numbered
    refine ⟨token, one, eight, once, fun n k hk => ?_⟩
    obtain ⟨c, hc, hn⟩ := numbered n k hk
    have := numbers k
    rw [show s.ret.pool[k] = some c from hc] at this
    obtain ⟨c', hc', hn'⟩ := Option.map_eq_some_iff.mp this
    exact ⟨c', hc', hn'.trans hn⟩
  · intro i j hij x hx y hy
    obtain ⟨x', hx', htx, hlx⟩ := back i x hx
    obtain ⟨y', hy', hty, hly⟩ := back j y hy
    have := apart i j hij x' hx' y' hy'
    rwa [htx, hty, hlx, hly] at this

/-- The law passes to a table with the same tankers and bindings, records in use and numbers. -/
theorem State.YardTableLaw.of_numbers (h : s.YardTableLaw) (tankers : t.ret.tankers = s.ret.tankers)
    (freeList : t.ret.freeList = s.ret.freeList) (bindings : t.ret.bindings = s.ret.bindings)
    (marker : t.ret.markerValid = s.ret.markerValid)
    (numbers : ∀ k : RecordRef, (t.ret.pool[k]).map (·.number) = (s.ret.pool[k]).map (·.number)) :
    t.YardTableLaw := by
  refine h.of_lists marker freeList numbers (fun i => by rw [tankers]) ?_ ?_ <;> intro hm <;> rw [tankers, bindings]
  · obtain ⟨-, -, -, -, -, bound, -⟩ := h hm
    exact bound
  · obtain ⟨-, -, -, -, -, -, binds⟩ := h hm
    exact binds

/-! ### Writing notices -/

/-- A port's notices written with lines its routes name or it had, and references in use or it had. -/
theorem State.setNotice_keepsYard {p : Port} {lines : LineSet} {changed : RefSet}
    (hl : ∀ l : Line, lines[l] = true → (s.notice p).pendingLines[l] = true ∨ (s.ret.routes[l]).notify[p.index] = true)
    (hc : ∀ r : RecordRef, changed[r] = true → (s.notice p).changed[r] = true ∨ (s.ret.pool[r]).isSome = true) :
    s.KeepsYard H (s.setNotice p lines changed) := by
  refine ⟨?_, id, fun _ => id⟩
  intro h hp j
  obtain ⟨hlines, hrefs⟩ := h hp p.index
  simp only [State.setNotice_notices, State.setNotice_ret, table_set]
  split
  next hj =>
    subst hj
    exact ⟨fun l e => (hl l e).elim (hlines l) id, fun r e => (hc r e).elim (hrefs r) id⟩
  · exact h hp j

/-- A reference to a record in use joins a changed set (R157). -/
theorem State.markChanged_keepsYard {p : Port} {r : RecordRef} (h : (s.ret.pool[r]).isSome = true) :
    s.KeepsYard H (s.markChanged p r) := by
  refine State.setNotice_keepsYard (fun l => Or.inl) (fun k hk => ?_)
  rw [table_set] at hk
  split at hk
  next e => exact .inr (e ▸ h)
  · exact .inl hk

/-- A reference to a record in use is handed over (R8, R157). -/
theorem State.notify_keepsYard {r : RecordRef} (h : (s.ret.pool[r]).isSome = true) :
    s.KeepsYard H (s.notify r) := by
  unfold State.notify
  split
  · exact (State.markChanged_keepsYard h).trans (State.markChanged_keepsYard h)
  · exact State.markChanged_keepsYard h

/-- A line joins the pending set of a port its route names (R149, R158). -/
theorem State.addPending_keepsYard {p : Port} {l : Line} (h : (s.ret.routes[l]).notify[p.index] = true) :
    s.KeepsYard H (s.addPending p l) := by
  refine State.setNotice_keepsYard (fun k hk => ?_) (fun r => Or.inl)
  rw [table_set] at hk
  split at hk
  next e => exact .inr (e ▸ h)
  · exact .inl hk

/-- A line leaves a pending set (R158). -/
theorem State.dropPending_keepsYard (p : Port) (l : Line) : s.KeepsYard H (s.dropPending p l) := by
  refine State.setNotice_keepsYard (fun k hk => .inl ?_) (fun r => Or.inl)
  rw [table_set] at hk
  split at hk
  · cases hk
  · exact hk

/-! ### Writing records -/

/-- A record in use rewritten under its number, with a record that fits. -/
theorem State.setRecord_keepsYard {r : RecordRef} {c c' : Compartment} (hc : s.ret.pool[r] = some c)
    (hn : c'.number = c.number) (hf : H → s.RecordFits c → s.RecordFits c') :
    s.KeepsYard H (s.setRecord r (some c')) := by
  have numbers (k : RecordRef) : ((s.setRecord r (some c')).ret.pool[k]).map (·.number)
      = (s.ret.pool[k]).map (·.number) := by
    rw [State.setRecord_pool, table_set]
    split
    next e => rw [e, hc]; simp [hn]
    · rfl
  have inUse (k : RecordRef) : ((s.setRecord r (some c')).ret.pool[k]).isSome = (s.ret.pool[k]).isSome := by
    simpa using congrArg Option.isSome (numbers k)
  refine ⟨?_, fun h => h.of_numbers rfl rfl rfl rfl numbers, ?_⟩
  · intro h hp j
    obtain ⟨hlines, hrefs⟩ := h hp j
    exact ⟨hlines, fun k hk => (inUse k).trans (hrefs k hk)⟩
  · intro hH h
    rw [State.recordLaw_iff] at h ⊢
    intro hm k x hx
    rw [State.setRecord_pool, table_set] at hx
    split at hx
    · cases hx
      exact (hf hH (h hm r c hc)).of_tables rfl rfl
    · exact (h hm k x hx).of_tables rfl rfl

/-- A record in use changed as a taken change of state, under its number and with a record that fits (R8). -/
theorem State.changeRecord_keepsYard {r : RecordRef} {c c' : Compartment} (hc : s.ret.pool[r] = some c)
    (hn : c'.number = c.number) (hf : H → s.RecordFits c → s.RecordFits c') :
    s.KeepsYard H (s.changeRecord r c') :=
  (State.setRecord_keepsYard hc hn hf).trans (State.notify_keepsYard (by simp))

/-- A transition request (R7). -/
theorem State.transition_keepsYard {r : RecordRef} {expected : List CState} {f : Compartment → Compartment}
    (hn : ∀ c, (f c).number = c.number)
    (hf : ∀ c, c.state ∈ expected → H → s.RecordFits c → s.RecordFits (f c)) :
    s.KeepsYard H (s.transition r expected f) := by
  rcases s.transition_cases r expected f with ⟨c, hc, he, h⟩ | ⟨-, h⟩
  · rw [h]; exact State.changeRecord_keepsYard hc (hn c) (hf c he)
  · rw [h]; exact .refl s

end Sys2Proof.Machine
end

section
namespace Sys2Proof.Machine

variable {H : Prop} {s t u : State}

/-! ## What the operations write fits -/

section

variable {c : Compartment} {p : Progress}

/-- The optional parts of a record that stands in a wash state (R4). -/
theorem State.RecordFits.ofWash (h : s.RecordFits c) (hw : c.state.isWash = true) :
    c.intent.isSome = true ∧ asksWash c.demand = true ∧ c.progress.isSome = true ∧ c.summary = none
      ∧ c.release = none ∧ c.fill = none := by
  obtain ⟨_, intent, _, _, asks, progress, summary, release, fill⟩ := h.parts
  have hd : c.state ≠ .dirty := by rintro e; simp [e, CState.isWash] at hw
  have hl : c.state ≠ .laden := by rintro e; simp [e, CState.isWash] at hw
  refine ⟨intent hd hl, asks hw, progress.trans hw, ?_⟩
  cases hq : c.state <;> simp_all [CState.isWash, CState.hasSummary, CState.hasRelease, CState.hasFill]

/-- A record that stands in a wash state, or in DIRTY with a wash asked for, goes to a wash state. -/
theorem State.RecordFits.washing {x : CState} {n : Option Note} (h : s.RecordFits c)
    (hc : c.state.isWash = true ∨ c.state = .dirty ∧ asksWash c.demand = true) (hx : x.isWash = true)
    (hp : s.ProgressFits { c with state := x, note := n, progress := some p } p) :
    s.RecordFits { c with state := x, note := n, progress := some p } := by
  have asks : asksWash c.demand = true := hc.elim (fun hw => (h.ofWash hw).2.1) (fun hd => hd.2)
  obtain ⟨_, intent, demand, program, _, _, summary, release, fill⟩ := h.parts
  refine ⟨h.low, h.high, h.history, ?_, h.names, ?_, h.summary, ?_, h.fill⟩
  · have hi : c.intent.isSome = true := by
      rw [← demand]; cases hd : c.demand <;> simp_all [asksWash]
    cases x <;> cases hq : c.state <;>
      simp_all [CState.isWash, CState.hasSummary, CState.hasRelease, CState.hasFill, Compartment.PartsFit]
  · rintro q hq
    cases hq
    exact hp
  · rintro (rfl | rfl) <;> simp [CState.isWash] at hx

/-- A wash ended in DIRTY (R55, R20). -/
theorem State.RecordFits.endedDirty (h : s.RecordFits c) (hw : c.state.isWash = true) (n : Note) :
    s.RecordFits (c.endedDirty n) := by
  obtain ⟨intent, asks, _, summary, release, fill⟩ := h.ofWash hw
  obtain ⟨_, _, demand, program, _⟩ := h.parts
  refine ⟨h.low, h.high, h.history, ?_, h.names, ?_, h.summary, ?_, h.fill⟩
  · simp_all [Compartment.endedDirty, CState.isWash, CState.hasSummary, CState.hasRelease, CState.hasFill,
      Compartment.PartsFit]
  · simp [Compartment.endedDirty]
  · simp [Compartment.endedDirty]

/-- A phase found in a program lies within its phase count (R28). -/
theorem State.phaseCount_of_phaseOf {n : Nat} {ph : Phase} (h : s.phaseOf c n = some ph) :
    1 ≤ n ∧ n ≤ s.phaseCount c := by
  unfold State.phaseOf at h
  obtain ⟨k, hk, hph⟩ := Option.bind_eq_some_iff.mp h
  split at hph
  · cases hph
  · obtain ⟨hlt, -⟩ := List.getElem?_eq_some_iff.mp hph
    simp only [State.phaseCount, hk]
    omega

/-- A phase found is in the ranges of R28 when every stored phase is. -/
theorem State.inRange_of_phaseOf {n : Nat} {ph : Phase} (h : s.phaseOf c n = some ph)
    (hr : ∀ k : ProgramNo, ∀ x ∈ s.ret.programs[k], x.InRange) : ph.InRange := by
  unfold State.phaseOf at h
  obtain ⟨k, hk, hph⟩ := Option.bind_eq_some_iff.mp h
  split at hph
  · cases hph
  · exact hr k ph (List.mem_of_getElem? hph)

/-! ### Into a wash state, and between them -/

/-- A compartment enters QUEUED with a phase dose for each phase before its own (R46, R52, R62). -/
theorem State.RecordFits.enterQueued (h : s.RecordFits c)
    (hc : c.state.isWash = true ∨ c.state = .dirty ∧ asksWash c.demand = true) (clock : Nat) (clamped : Bool)
    (one : 1 ≤ p.phaseIndex) (count : p.phaseIndex ≤ s.phaseCount c) (dose : p.dose ≤ 16777215)
    (remainder : p.remainder ≤ 19) (running : p.runningTime ≤ 7200) (endpoint : p.endpointCount ≤ 8)
    (doses : p.phaseDoses.length + 1 = p.phaseIndex) : s.RecordFits (c.enterQueued p clock clamped) := by
  refine h.washing hc rfl ⟨one, count, dose, remainder, running, endpoint, ?_⟩
  simpa [Compartment.AtHandover] using doses

/-- A grant (R47). -/
theorem State.RecordFits.granted (h : s.RecordFits c) (hq : c.state = .queued) (hp : c.progress = some p)
    (shares : Nat) : s.RecordFits (c.granted p shares) := by
  obtain ⟨one, count, dose, remainder, running, -, held, since, origin, -, doses⟩ := h.progress p hp
  refine h.washing (.inl (by simp [hq, CState.isWash])) rfl ⟨one, count, dose, remainder, running, by simp, ?_⟩
  simp_all [Compartment.AtHandover]

/-- A hold (R60). -/
theorem State.RecordFits.heldAt (h : s.RecordFits c) (hq : c.state.canHold = true) (hp : c.progress = some p)
    (clock : Nat) : s.RecordFits (c.heldAt p clock) := by
  obtain ⟨one, count, dose, remainder, running, endpoint, held, since, origin, handover, doses⟩ := h.progress p hp
  refine h.washing (.inl ?_) rfl ⟨one, count, dose, remainder, running, endpoint, ?_⟩ <;>
    cases hs : c.state <;> simp_all [CState.canHold, CState.isWash, Compartment.AtHandover, State.phaseCount]

/-- A resume to HANDOVER (R62). -/
theorem State.RecordFits.backToHandover (h : s.RecordFits c) (hq : c.state = .held) (hp : c.progress = some p)
    (hf : p.heldFrom = some .handover) : s.RecordFits (c.backToHandover p) := by
  obtain ⟨one, count, dose, remainder, running, endpoint, -, -, -, handover, -⟩ := h.progress p hp
  refine h.washing (.inl (by simp [hq, CState.isWash])) rfl ⟨one, count, dose, remainder, running, endpoint, ?_⟩
  have := handover (.inr hf)
  simpa [Compartment.AtHandover, State.phaseCount] using this

/-- A RUNNING compartment's progress updated. -/
theorem State.RecordFits.runOn (h : s.RecordFits c) (hq : c.state = .running) (hp : s.ProgressFits c p) :
    s.RecordFits { c with progress := some p } := by
  have := h.washing (x := .running) (n := c.note) (.inl (by simp [hq, CState.isWash])) rfl (p := p)
    (by simpa [State.ProgressFits, State.phaseCount, Compartment.AtHandover, hq] using hp)
  rwa [← hq] at this

/-- A phase completed that is not the last (R49, R51). -/
theorem State.RecordFits.handedOver (h : s.RecordFits c) (hq : c.state = .running) (hp : s.ProgressFits c p)
    (hl : p.phaseIndex ≠ s.phaseCount c) : s.RecordFits (c.handedOver p) := by
  obtain ⟨one, count, dose, remainder, running, endpoint, held, since, -, -, doses⟩ := hp
  refine h.washing (.inl (by simp [hq, CState.isWash])) rfl ⟨one, count, dose, remainder, running, endpoint, ?_⟩
  have hlt : p.phaseIndex < s.phaseCount c := by omega
  simp_all [Compartment.AtHandover, State.phaseCount]

/-- The last phase completed (R49, R50). -/
theorem State.RecordFits.washed (h : s.RecordFits c) (hq : c.state = .running) (hp : s.ProgressFits c p)
    (hc : s.phaseCount c ≤ 8) (last : Option Nat) : s.RecordFits (c.washed p last) := by
  have hw : c.state.isWash = true := by simp [hq, CState.isWash]
  obtain ⟨intent, asks, -, -, release, fill⟩ := h.ofWash hw
  obtain ⟨-, -, demand, program, -⟩ := h.parts
  obtain ⟨-, count, -, -, -, -, held, -, -, -, doses⟩ := hp
  have doses : p.phaseDoses.length + 1 = p.phaseIndex := doses (by
    rintro (e | e)
    · simp [hq] at e
    · simp [e, hq] at held)
  refine ⟨h.low, h.high, h.history, ?_, h.names, ?_, ?_, ?_, h.fill⟩
  · simp_all [Compartment.washed, CState.isWash, CState.hasSummary, CState.hasRelease, CState.hasFill,
      Compartment.PartsFit]
  · simp [Compartment.washed]
  · rintro w hw
    cases hw
    simp only [List.length_append, List.length_singleton]
    omega
  · simp [Compartment.washed]

/-! ### The updates of a RUNNING compartment's progress -/

/-- A second of the phase's running time (R42). -/
theorem State.ProgressFits.ticked (h : s.ProgressFits c p) {limit : Nat} (hl : limit ≤ 7200) :
    s.ProgressFits c (p.ticked limit) := by
  obtain ⟨one, count, dose, remainder, running, rest⟩ := h
  refine ⟨one, count, dose, remainder, ?_, rest⟩
  simp only [Progress.ticked]
  split <;> omega

/-- An increment's remainder is below 20, or what it was (R89, R91). -/
theorem increment_remainder_le (ph : Phase) (volume r : Nat) (supply : Option Supply) (h : r ≤ 19) :
    (increment ph volume r supply).remainder ≤ 19 := by
  unfold increment
  split
  · exact h
  · split
    · exact h
    · simp only []
      omega

/-- An interval close (R86, R92). -/
theorem State.ProgressFits.closed (h : s.ProgressFits c p) (ph : Phase) (x : WashUnit) :
    s.ProgressFits c (p.closed ph x) := by
  obtain ⟨one, count, dose, remainder, rest⟩ := h
  exact ⟨one, count, Nat.min_le_right _ _, increment_remainder_le _ _ _ _ remainder, rest⟩

/-- An endpoint count after a sample is at most 8 (R95). -/
theorem countAfter_le (e : Endpoint) (hysteresis count : Nat) (sample : Option Nat) (he : e.qualifying ≤ 8)
    (hc : count ≤ 8) : countAfter e hysteresis count sample ≤ 8 := by
  unfold countAfter
  split
  · omega
  · split_ifs <;> omega

/-- A conductivity sample (R95). -/
theorem State.ProgressFits.sampled (h : s.ProgressFits c p) {count : Nat} (hc : count ≤ 8) (sample : Option Nat) :
    s.ProgressFits c (p.sampled count sample) := by
  obtain ⟨one, index, dose, remainder, running, -, rest⟩ := h
  exact ⟨one, index, dose, remainder, running, hc, rest⟩

end
end Sys2Proof.Machine
end

section
namespace Sys2Proof.Machine

variable {H : Prop} {s t u : State}

section

variable {c : Compartment} {p : Progress}

/-! ### Outside the wash states -/

/-- A record outside the wash states has no progress part (R4). -/
theorem State.RecordFits.progress_none (h : s.RecordFits c) (hw : c.state.isWash = false) : c.progress = none := by
  obtain ⟨_, _, _, _, _, progress, _⟩ := h.parts
  simpa [hw] using progress

/-- The optional parts a record carries, in an unfolded form that `simp` can use. -/
theorem State.RecordFits.carried (h : s.RecordFits c) :
    c.summary.isSome = c.state.hasSummary ∧ c.release.isSome = c.state.hasRelease
      ∧ c.fill.isSome = c.state.hasFill := by
  obtain ⟨_, _, _, _, _, _, summary, release, fill⟩ := h.parts
  exact ⟨summary, release, fill⟩

/-- A record moved between states that carry no progress fits when the parts of its new state are there. -/
theorem State.RecordFits.moved {c' : Compartment} (h : s.RecordFits c) (low : c'.capacity = c.capacity)
    (history : c'.history.length ≤ 3) (parts : c'.PartsFit) (names : s.ret.NamesDefined c')
    (progress : c'.progress = none) (summary : ∀ w ∈ c'.summary, w.phaseDoses.length ≤ 8)
    (released : c'.state = .released ∨ c'.state = .filling → c'.release.map (·.releasedFor) = c'.intent)
    (fill : ∀ f ∈ c'.fill, c'.release.map (·.releasedFor) = some f.cargo ∧ 1 ≤ f.preset ∧ f.preset ≤ c.capacity
      ∧ f.counted ≤ 999999) : s.RecordFits c' :=
  ⟨low ▸ h.low, low ▸ h.high, history, parts, names, by simp [progress], summary, released, low ▸ fill⟩

/-- A new record at an admission (R10). -/
theorem State.recordFits_newCompartment (s : State) (n capacity : Nat) (history : List ClassNo)
    (low : 500 ≤ capacity) (high : capacity ≤ 30000) (hl : history.length ≤ 3)
    (defined : ∀ k ∈ history, (s.ret.classes[k]).isSome = true) :
    s.RecordFits (newCompartment n capacity history) := by
  refine ⟨low, high, hl, ?_, ⟨defined, ?_, ?_⟩, ?_, ?_, ?_, ?_⟩ <;>
    simp [newCompartment, Compartment.PartsFit, CState.isWash, CState.hasSummary, CState.hasRelease, CState.hasFill,
      asksWash]

/-- A release lapsed (R126). -/
theorem State.RecordFits.lapsed (h : s.RecordFits c) (hq : c.state = .released) : s.RecordFits c.lapsed := by
  obtain ⟨_, _, demand, program, _, _, _, _, fill⟩ := h.parts
  obtain ⟨history, intent, _⟩ := h.names
  refine h.moved rfl h.history ?_ ⟨history, intent, ?_⟩ (h.progress_none (by simp [hq, CState.isWash])) ?_ ?_ ?_ <;>
    simp_all [Compartment.lapsed, Compartment.PartsFit, CState.isWash, CState.hasSummary, CState.hasRelease,
      CState.hasFill]

/-- A release voided (R127). -/
theorem State.RecordFits.voided (h : s.RecordFits c) (hq : c.state = .released) :
    s.RecordFits { c with state := .washed, note := some .voided, release := none } := by
  obtain ⟨_, _, demand, program, _, _, summary, _, fill⟩ := h.parts
  obtain ⟨history, intent, _⟩ := h.names
  refine h.moved rfl h.history ?_ ⟨history, intent, ?_⟩ (h.progress_none (by simp [hq, CState.isWash]))
      h.summary ?_ ?_ <;>
    simp_all [Compartment.PartsFit, CState.isWash, CState.hasSummary, CState.hasRelease, CState.hasFill]

/-- A compartment passed at inspection (R121). -/
theorem State.RecordFits.passed (h : s.RecordFits c) (hq : c.state = .washed) {k : ClassNo} (hk : c.intent = some k)
    {x : Release} (hx : x.releasedFor = k) : s.RecordFits { c with state := .released, release := some x } := by
  obtain ⟨_, _, demand, program, _, _, summary, _, fill⟩ := h.parts
  obtain ⟨history, intent, _⟩ := h.names
  refine h.moved rfl h.history ?_ ⟨history, intent, ?_⟩ (h.progress_none (by simp [hq, CState.isWash]))
      h.summary ?_ ?_ <;>
    simp_all [Compartment.PartsFit, CState.isWash, CState.hasSummary, CState.hasRelease, CState.hasFill]

/-- A WASHED compartment's upgrade finds a program (R123): the class it is read from is defined (R23). -/
theorem State.RecordFits.upgradeProgram_isSome (h : s.RecordFits c) (hi : c.intent.isSome = true) :
    (s.ret.upgradeProgram c).isSome = true := by
  obtain ⟨history, intent, _⟩ := h.names
  unfold Retained.upgradeProgram Retained.programOfClass
  split
  next newest older e => simpa using history newest (by simp [e])
  next e =>
    obtain ⟨k, hk⟩ := Option.isSome_iff_exists.mp hi
    simpa [hk] using intent k hk

/-- A compartment failed at inspection (R122, R123). -/
theorem State.RecordFits.failed (h : s.RecordFits c) (hq : c.state = .washed) (upgrade : Bool) :
    s.RecordFits (s.ret.failed c upgrade) := by
  obtain ⟨_, intent, demand, program, _, _, summary, release, fill⟩ := h.parts
  have hi : c.intent.isSome = true := intent (by simp [hq]) (by simp [hq])
  have hu := h.upgradeProgram_isSome hi
  have hr : c.release = none := by simpa [hq, CState.hasRelease] using release
  have hf : c.fill = none := by simpa [hq, CState.hasFill] using fill
  have hp := h.progress_none (by simp [hq, CState.isWash])
  unfold Retained.failed
  split
  · refine h.moved rfl h.history ?_ h.names hp (by simp) (by simp) (by simp [hf])
    split <;> simp_all [Compartment.PartsFit, CState.isWash, CState.hasSummary, CState.hasRelease, CState.hasFill,
      asksWash]
  · refine h.moved rfl h.history ?_ h.names hp (by simp) (by simp) (by simp [hf])
    simp_all [Compartment.PartsFit, CState.isWash, CState.hasSummary, CState.hasRelease, CState.hasFill]

/-- A compartment retargeted (R38, R39, R40), to a demand that names a program exactly when it asks for a wash. -/
theorem State.RecordFits.retargeted (h : s.RecordFits c) (hq : c.state.canTarget = true) {k : ClassNo} {d : Demand}
    {program : Option ProgramNo} (hk : (s.ret.classes[k]).isSome = true)
    (hd : program.isSome = asksWash (some d)) : s.RecordFits (c.retargeted k d program) := by
  obtain ⟨summary, release, fill⟩ := h.carried
  obtain ⟨history, -, named⟩ := h.names
  have hw : c.state.isWash = false := by cases hs : c.state <;> simp_all [CState.isWash, CState.canTarget]
  have hf : c.fill = none := by cases hs : c.state <;> simp_all [CState.hasFill, CState.canTarget]
  have hp := h.progress_none hw
  unfold Compartment.retargeted Compartment.targeted
  cases hs : c.state
  case dirty =>
    simp only
    split <;>
      refine h.moved rfl h.history ?_ ⟨history, by simpa using hk, named⟩ hp ?_ ?_ ?_ <;>
      simp_all [Compartment.PartsFit, CState.isWash, CState.hasSummary, CState.hasRelease, CState.hasFill, asksWash]
  case washed =>
    simp only
    split <;>
      refine h.moved rfl h.history ?_ ⟨history, by simpa using hk, named⟩ hp ?_ ?_ ?_ <;>
      simp_all [Compartment.PartsFit, CState.isWash, CState.hasSummary, CState.hasRelease, CState.hasFill]
    exact h.summary
  case released =>
    simp only
    split <;>
      refine h.moved rfl h.history ?_ ⟨history, by simpa using hk, by simp⟩ hp ?_ ?_ ?_ <;>
      simp_all [Compartment.PartsFit, CState.isWash, CState.hasSummary, CState.hasRelease, CState.hasFill]
    exact h.summary
  all_goals simp [hs, CState.canTarget] at hq

/-- Release deadlines shifted with the clock (R128). -/
theorem State.RecordFits.shifted (h : s.RecordFits c) (clock reading : Nat) :
    s.RecordFits (c.shifted clock reading) := by
  obtain ⟨laden, intent, demand, program, asks, progress, summary, release, fill⟩ := h.parts
  obtain ⟨history, named, released⟩ := h.names
  have hr : (c.shifted clock reading).release.map (·.releasedFor) = c.release.map (·.releasedFor) := by
    cases hc : c.release <;> simp [Compartment.shifted, hc]
  refine ⟨h.low, h.high, h.history,
    ⟨laden, intent, demand, program, asks, progress, summary, ?_, fill⟩, ⟨history, named, ?_⟩, h.progress, h.summary,
    hr ▸ h.released, hr ▸ h.fill⟩
  · simpa [Compartment.shifted] using release
  · cases hc : c.release <;> simp_all [Compartment.shifted]

/-! ### At the rack -/

/-- A fill opened (R134). -/
theorem State.RecordFits.filling (h : s.RecordFits c) (hq : c.state = .released) {x : Release}
    (hx : c.release = some x) {preset : Nat} (hp : preset ≠ 0) :
    s.RecordFits { c with state := .filling, fill := some (newFill x.releasedFor preset c.capacity) } := by
  obtain ⟨_, intent, demand, program, _, _, summary, release, fill⟩ := h.parts
  have low := h.low
  refine h.moved rfl h.history ?_ h.names (h.progress_none (by simp [hq, CState.isWash])) h.summary
    (fun _ => h.released (.inl hq)) ?_
  · simp_all [Compartment.PartsFit, CState.isWash, CState.hasSummary, CState.hasRelease, CState.hasFill]
  · rintro f hf
    cases hf
    simp only [newFill, hx, Option.map_some, true_and]
    omega

/-- A FILLING compartment's fill updated: its cargo and preset as they were, its count in range. -/
theorem State.RecordFits.fillUpdated (h : s.RecordFits c) {f f' : Fill} (hf : c.fill = some f)
    (cargo : f'.cargo = f.cargo) (preset : f'.preset = f.preset) (counted : f'.counted ≤ 999999) :
    s.RecordFits { c with fill := some f' } := by
  obtain ⟨laden, intent, demand, program, asks, progress, summary, release, fill⟩ := h.parts
  obtain ⟨for_, one, within, -⟩ := h.fill f hf
  refine ⟨h.low, h.high, h.history, ⟨laden, intent, demand, program, asks, progress, summary, release, ?_⟩, h.names,
    h.progress, h.summary, h.released, ?_⟩
  · simpa [hf] using fill
  · rintro g hg
    cases hg
    exact ⟨cargo ▸ for_, preset ▸ one, preset ▸ within, counted⟩

/-- A fill closed in LADEN (R139, R142, R20). -/
theorem State.RecordFits.ladenWith (h : s.RecordFits c) (hq : c.state = .filling) {f f' : Fill}
    (hf : c.fill = some f) (cargo : f'.cargo = f.cargo) (preset : f'.preset = f.preset)
    (counted : f'.counted = f.counted) : s.RecordFits (c.ladenWith f') := by
  obtain ⟨-, intent, demand, program, -, -, summary, release, -⟩ := h.parts
  obtain ⟨for_, one, within, inRange⟩ := h.fill f hf
  obtain ⟨history, -, named⟩ := h.names
  have hp := h.progress_none (by simp [hq, CState.isWash])
  refine h.moved rfl (by simp [Compartment.ladenWith, pushHistory]) ?_ ⟨?_, by simp [Compartment.ladenWith], named⟩
    hp h.summary (by simp [Compartment.ladenWith]) ?_
  · simp_all [Compartment.ladenWith, Compartment.PartsFit, CState.isWash, CState.hasSummary, CState.hasRelease,
      CState.hasFill, asksWash]
  · intro k hk
    rcases List.mem_cons.mp (List.mem_of_mem_take hk) with rfl | hk
    · obtain ⟨x, hx, hxf⟩ := Option.map_eq_some_iff.mp for_
      simpa only [hxf, cargo] using named x hx
    · exact history k hk
  · rintro g hg
    cases hg
    exact ⟨cargo ▸ for_, preset ▸ one, preset ▸ within, counted ▸ inRange⟩

/-- A fill abandoned with nothing counted (R142). -/
theorem State.RecordFits.backToReleased (h : s.RecordFits c) (hq : c.state = .filling) :
    s.RecordFits { c with state := .released, fill := none } := by
  obtain ⟨_, _, demand, program, _, _, summary, release, _⟩ := h.parts
  refine h.moved rfl h.history ?_ h.names (h.progress_none (by simp [hq, CState.isWash])) h.summary
    (fun _ => h.released (.inr hq)) (by simp)
  simp_all [Compartment.PartsFit, CState.isWash, CState.hasSummary, CState.hasRelease, CState.hasFill]

/-- A laden compartment emptied (R144). -/
theorem State.RecordFits.emptied (h : s.RecordFits c) (hq : c.state = .laden) :
    s.RecordFits { c with state := .dirty, release := none, fill := none, summary := none } := by
  obtain ⟨_, _, demand, program, _⟩ := h.parts
  obtain ⟨history, intent, _⟩ := h.names
  refine h.moved rfl h.history ?_ ⟨history, intent, by simp⟩ (h.progress_none (by simp [hq, CState.isWash]))
    (by simp) (by simp) (by simp)
  simp_all [Compartment.PartsFit, CState.isWash, CState.hasSummary, CState.hasRelease, CState.hasFill]

/-- A record at a restart (R20). -/
theorem State.RecordFits.mapped (h : s.RecordFits c) : s.RecordFits c.mapped := by
  unfold Compartment.mapped
  split
  next hw => exact h.endedDirty hw .powerLost
  · split
    next f hq hf => exact h.ladenWith hq hf rfl rfl rfl
    · exact h

/-- A restart leaves a record its number (R20). -/
@[simp] theorem Compartment.mapped_number (c : Compartment) : c.mapped.number = c.number := by
  unfold Compartment.mapped
  split
  · rfl
  · split <;> rfl

end
end Sys2Proof.Machine
end

section
namespace Sys2Proof.Machine

variable {H : Prop} {s t u : State}

/-! ## The wash cycle keeps the laws -/

/-- A record in use changed after moves of the active domain that left the notices alone. -/
theorem State.KeepsYard.thenChange {r : RecordRef} {c c' : Compartment} (hc : s.ret.pool[r] = some c)
    (hn : c'.number = c.number) (hf : H → s.RecordFits c → s.RecordFits c') (ret : t.ret = s.ret)
    (notices : t.act.notices = s.act.notices) (power : t.mainPower = s.mainPower) :
    s.KeepsYard H (t.changeRecord r c') := by
  have same : s.KeepsYard H t := .of_same ret notices power
  refine same.trans (State.changeRecord_keepsYard (by rw [ret]; exact hc) hn (fun hH h => ?_))
  exact (hf hH (h.of_tables (by rw [ret]) (by rw [ret]))).of_tables (by rw [ret]) (by rw [ret])

/-- Writing a wash unit. -/
theorem State.setUnit_keepsYard (b : Bay) (x : WashUnit) : s.KeepsYard H (s.setUnit b x) := .of_same rfl rfl rfl

/-- The ranges the wash cycle's updates rest on: the stored programs' (R28) and the endpoint counters' (R42). -/
structure State.WashRanges (s : State) : Prop where
  count : ∀ k : ProgramNo, (s.ret.programs[k]).length ≤ 8
  phases : ∀ k : ProgramNo, ∀ ph ∈ s.ret.programs[k], ph.InRange
  counters : ∀ b : Bay, (s.act.units[b]).endpointCounter ≤ 8

/-- The range law gives them to a powered part. -/
theorem State.washRanges (h : s.RangeLaw) (hp : s.mainPower = true) : s.WashRanges := by
  obtain ⟨stored, powered⟩ := h
  obtain ⟨marker, -, -, -, -, units, -⟩ := powered hp
  obtain ⟨-, -, -, -, programs, -⟩ := stored marker
  exact ⟨fun k => (programs k).1, fun k => (programs k).2, fun b => (units b).2.1⟩

/-- A record's phase count is at most 8 (R28). -/
theorem State.WashRanges.phaseCount_le (h : s.WashRanges) (c : Compartment) : s.phaseCount c ≤ 8 := by
  unfold State.phaseCount
  split
  · exact h.count _
  · omega

@[simp] theorem State.releaseLoop_ret (s : State) (b : Bay) (r : RecordRef) (c : Compartment) :
    (s.releaseLoop b r c).ret = s.ret := by unfold State.releaseLoop; split <;> rfl

@[simp] theorem State.releaseLoop_notices (s : State) (b : Bay) (r : RecordRef) (c : Compartment) :
    (s.releaseLoop b r c).act.notices = s.act.notices := by unfold State.releaseLoop; split <;> rfl

@[simp] theorem State.releaseLoop_mainPower (s : State) (b : Bay) (r : RecordRef) (c : Compartment) :
    (s.releaseLoop b r c).mainPower = s.mainPower := by unfold State.releaseLoop; split <;> rfl

section

variable {b : Bay} {r : RecordRef} {c : Compartment} {p : Progress} {ph : Phase} (hc : s.ret.pool[r] = some c)

include hc

/-- A wash ended in DIRTY (R55). -/
theorem State.endWash_keepsYard (hw : c.state.isWash = true) (n : Note) : s.KeepsYard H (s.endWash b r c n) :=
  .thenChange hc rfl (fun _ h => h.endedDirty hw n) (s.releaseLoop_ret b r c) (s.releaseLoop_notices b r c)
    (s.releaseLoop_mainPower b r c)

/-- A wash stopped by a request (R56, R57). -/
theorem State.stopWash_keepsYard (hw : c.state.isWash = true) (n : Note) : s.KeepsYard H (s.stopWash r c n) := by
  unfold State.stopWash
  split
  · exact State.endWash_keepsYard hc hw n
  · exact State.changeRecord_keepsYard hc rfl (fun _ h => h.endedDirty hw n)

/-- A compartment enters QUEUED (R46, R52, R62). -/
theorem State.enterQueued_keepsYard (hf : s.RecordFits c → ∀ clamped, s.RecordFits (c.enterQueued p s.ret.clock clamped)) :
    s.KeepsYard H (s.enterQueued b r c p ph) :=
  .thenChange hc rfl (fun _ h => hf h _) rfl rfl rfl

/-- A phase completed (R49). -/
theorem State.completePhase_keepsYard (hq : c.state = .running)
    (hp : H → s.RecordFits c → s.ProgressFits c p) (hr : H → s.WashRanges) :
    s.KeepsYard H (s.completePhase b r c p ph) := by
  unfold State.completePhase
  simp only
  split
  · exact .thenChange hc rfl (fun hH h => h.washed hq (hp hH h) ((hr hH).phaseCount_le c) _) rfl rfl rfl
  next hl => exact .thenChange hc rfl (fun hH h => h.handedOver hq (hp hH h) hl) rfl rfl rfl

end

/-- A grant request at the yard table (R73). -/
theorem State.grantStep_keepsYard (s : State) : s.KeepsYard H s.grantStep := by
  have refused : s.KeepsYard H s.refuseGrant := .of_same rfl rfl rfl
  unfold State.grantStep
  split
  · exact refused
  · split
    · exact refused
    next c hc =>
      split
      next p hq hp =>
        split
        · exact .thenChange hc rfl (fun _ h => h.granted hq hp _) rfl rfl rfl
        · exact refused
      · exact refused

/-- START-WASH's change (R46). -/
theorem startWashOn_keepsYard (b : Bay) {x : Named} (hx : s.ret.pool[x.ref] = some x.record) :
    s.KeepsYard H (startWashOn b x s).1 := by
  unfold startWashOn
  split_ifs with hq
  · exact .refl s
  · exact .refl s
  · exact .refl s
  · split
    · exact .refl s
    next ph hph =>
      obtain ⟨-, hcount⟩ := State.phaseCount_of_phaseOf hph
      have hd : x.record.state = .dirty ∧ asksWash x.record.demand = true := by simpa using hq
      exact State.enterQueued_keepsYard hx (fun h clamped => h.enterQueued (.inr hd) _ _ (le_refl 1) hcount
        (Nat.zero_le _) (Nat.zero_le _) (Nat.zero_le _) (Nat.zero_le _) rfl)

/-- PHASE-GO's change (R52). -/
theorem phaseGoOn_keepsYard {x : Named} (hx : s.ret.pool[x.ref] = some x.record) :
    s.KeepsYard H (phaseGoOn x s).1 := by
  unfold phaseGoOn
  split
  next p b hq hp hb =>
    split
    · exact .refl s
    next ph hph =>
      obtain ⟨-, hcount⟩ := State.phaseCount_of_phaseOf hph
      refine State.enterQueued_keepsYard hx (fun h clamped => ?_)
      obtain ⟨_, _, _, _, _, _, _, _, _, handover, _⟩ := h.progress p hp
      obtain ⟨-, doses⟩ := handover (.inl hq)
      exact h.enterQueued (.inl (by simp [hq, CState.isWash])) _ _ (Nat.le_add_left 1 _) hcount
        (Nat.zero_le _) (Nat.zero_le _) (Nat.zero_le _) (Nat.zero_le _) (by simp [Progress.nextPhase, doses])
  · exact .refl s

/-- The expiry of one of a wash unit's timers (R44). -/
theorem State.expire_keepsYard (b : Bay) (runs : Bool) (stopped : WashUnit) {x : CState} (hx : x.isWash = true)
    (n : Note) : s.KeepsYard H (s.expire b runs stopped x n) := by
  have stops : s.KeepsYard H (s.setUnit b stopped) := State.setUnit_keepsYard b stopped
  unfold State.expire
  split
  · split
    · exact stops
    · split
      · exact stops
      next c hc =>
        split
        next hq => exact State.endWash_keepsYard hc (hq ▸ hx) n
        · exact stops
  · exact .refl s

/-- What a bay is running is a RUNNING record in use, at a phase of its program. -/
theorem State.of_runningAt {b : Bay} {w : RunningWash} (h : s.runningAt b = some w) :
    (s.act.units[b]).active = some w.ref ∧ s.ret.pool[w.ref] = some w.record ∧ w.record.state = .running
      ∧ w.record.progress = some w.progress ∧ s.phaseOf w.record w.progress.phaseIndex = some w.phase := by
  unfold State.runningAt at h
  split at h
  · cases h
  next r hr =>
    split at h
    · cases h
    next c hc =>
      split at h
      next p hq hp =>
        obtain ⟨ph, hph, rfl⟩ := Option.map_eq_some_iff.mp h
        exact ⟨hr, hc, hq, hp, hph⟩
      · cases h

/-- A second of a phase's running time (R42). -/
theorem State.phaseTick_keepsYard (b : Bay) (hr : H → s.WashRanges) : s.KeepsYard H (s.phaseTick b) := by
  unfold State.phaseTick
  split
  · exact .refl s
  next w hw =>
    obtain ⟨-, hc, hq, hp, hph⟩ := State.of_runningAt hw
    split
    · refine State.setRecord_keepsYard hc rfl (fun hH h => h.runOn hq ?_)
      obtain ⟨_, _, _, _, _, _, limit, _⟩ := State.inRange_of_phaseOf hph (hr hH).phases
      exact State.ProgressFits.ticked (h.progress _ hp) limit
    · exact .refl s

/-- The expiry of a phase timer (R54). -/
theorem State.phaseExpiry_keepsYard (b : Bay) : s.KeepsYard H (s.phaseExpiry b) := by
  unfold State.phaseExpiry
  split
  · exact .refl s
  next w hw =>
    obtain ⟨-, hc, hq, -, -⟩ := State.of_runningAt hw
    split
    · exact State.endWash_keepsYard hc (by simp [hq, CState.isWash]) _
    · exact .refl s

/-- A wash unit's hold (R60). -/
theorem State.holdStep_keepsYard (b : Bay) : s.KeepsYard H (s.holdStep b) := by
  unfold State.holdStep
  simp only
  split
  · exact .refl s
  next r _ =>
    split
    · exact .refl s
    next c hc =>
      split
      · exact .refl s
      next p hp =>
        split
        next hq =>
          exact .thenChange hc rfl (fun _ h => h.heldAt hq.1 hp _) (s.releaseLoop_ret b r c)
            (s.releaseLoop_notices b r c) (s.releaseLoop_mainPower b r c)
        · exact .refl s

/-- A wash unit's resume (R62). -/
theorem State.resumeStep_keepsYard (b : Bay) : s.KeepsYard H (s.resumeStep b) := by
  unfold State.resumeStep
  simp only
  split
  · exact .refl s
  · split
    · exact .refl s
    next c hc =>
      split
      · exact .refl s
      next p hp =>
        split_ifs with hq hf
        · exact .thenChange hc rfl (fun _ h => h.backToHandover hq.1 hp hf) rfl rfl rfl
        · split
          · refine State.enterQueued_keepsYard hc (fun h clamped => ?_)
            obtain ⟨one, count, dose, remainder, running, endpoint, -, -, -, -, doses⟩ := h.progress p hp
            exact h.enterQueued (.inl (by simp [hq.1, CState.isWash])) _ _ one count dose remainder running endpoint
              (doses (by simp [Compartment.AtHandover, hq.1, hf]))
          · exact .refl s
        · exact .refl s

/-- The close of an accounting interval (R92). -/
theorem State.closeInterval_keepsYard (b : Bay) (hr : H → s.WashRanges) : s.KeepsYard H (s.closeInterval b) := by
  unfold State.closeInterval
  simp only
  split
  · exact .refl s
  next w hw =>
    obtain ⟨-, hc, hq, hp, -⟩ := State.of_runningAt hw
    have closed (h : s.RecordFits w.record) := State.ProgressFits.closed (h.progress _ hp) w.phase (s.act.units[b])
    split_ifs
    · exact State.completePhase_keepsYard hc hq (fun _ => closed) hr
    · refine State.KeepsYard.trans (State.setRecord_keepsYard hc ?_ ?_) (State.setUnit_keepsYard _ _)
      · rfl
      · exact fun _ h => h.runOn hq (closed h)
    · exact .refl s

/-- A conductivity sample (R95, R97). -/
theorem State.conductivitySample_keepsYard (b : Bay) (sample : Option Nat) (hr : H → s.WashRanges) :
    s.KeepsYard H (s.conductivitySample b sample) := by
  unfold State.conductivitySample
  split
  · exact .refl s
  next w hw =>
    split
    · exact .refl s
    next e he =>
      obtain ⟨-, hc, hq, hp, hph⟩ := State.of_runningAt hw
      simp only
      set v := (s.act.units[b]).sampled e s.ret.hysteresis sample
      have counter (hH : H) : v.endpointCounter ≤ 8 := by
        obtain ⟨_, _, _, _, _, _, _, _, _, _, endpoint⟩ := State.inRange_of_phaseOf hph (hr hH).phases
        obtain ⟨-, qualifying⟩ := endpoint e he
        exact countAfter_le e _ _ _ (by omega) ((hr hH).counters b)
      have sampled (hH : H) (h : (s.setUnit b v).RecordFits w.record) :
          (s.setUnit b v).ProgressFits w.record (w.progress.sampled v.endpointCounter sample) :=
        State.ProgressFits.sampled (h.progress _ hp) (counter hH) sample
      refine (State.setUnit_keepsYard b v).trans ?_
      split
      · refine State.completePhase_keepsYard hc hq sampled (fun hH => ⟨(hr hH).count, (hr hH).phases, fun j => ?_⟩)
        rw [State.setUnit_units, table_set]
        split
        · exact counter hH
        · exact (hr hH).counters j
      · exact State.setRecord_keepsYard hc rfl (fun hH h => h.runOn hq (sampled hH h))

/-- A pulse of a bay's meter (R85). -/
theorem State.bayPulse_keepsYard (b : Bay) : s.KeepsYard H (s.bayPulse b) := by
  unfold State.bayPulse
  simp only
  split
  · exact .refl s
  · exact .of_same rfl rfl rfl

end Sys2Proof.Machine
end

section
namespace Sys2Proof.Machine

variable {H : Prop} {s t u : State}

/-! ## The cargo rules keep the laws -/

/-- A demand that `withProgram` lets pass names a program exactly when it asks for a wash (R36). -/
theorem Retained.program_of_withProgram {r : Retained} {d d' : Demand} {program program' : Option ProgramNo}
    (h : r.withProgram d program = .demands d' program') : program'.isSome = asksWash (some d') := by
  unfold Retained.withProgram at h
  split at h
  · cases h; rfl
  all_goals
    split at h
    · cases h
    · split at h <;> cases h
      rfl

/-- An assessment that ends in a demand is of a defined class, and names a program exactly when it asks for a wash
(R34, R36). -/
theorem Retained.of_assess {r : Retained} {history : List ClassNo} {k : ClassNo} {d : Demand}
    {program : Option ProgramNo} (h : r.assess history k = .demands d program) :
    (r.classes[k]).isSome = true ∧ program.isSome = asksWash (some d) := by
  unfold Retained.assess at h
  split at h
  · cases h
  next x hx =>
    refine ⟨by simp [hx], ?_⟩
    split at h
    · exact Retained.program_of_withProgram h
    · split at h
      · cases h
      · exact Retained.program_of_withProgram h

/-- A retargeted record keeps its number (R38, R39, R40). -/
@[simp] theorem Compartment.retargeted_number (c : Compartment) (k : ClassNo) (d : Demand)
    (program : Option ProgramNo) : (c.retargeted k d program).number = c.number := by
  unfold Compartment.retargeted
  simp only
  split <;> split <;> rfl

/-- SET-INTENT's change (R37). -/
theorem setIntentOn_keepsYard {x : Named} (hx : s.ret.pool[x.ref] = some x.record) (intent : Nat) :
    s.KeepsYard H (setIntentOn x intent s).1 := by
  unfold setIntentOn
  split
  · exact .refl s
  next k _ =>
    split
    · exact .refl s
    next hq =>
      split
      · exact .refl s
      · exact .refl s
      · exact .refl s
      next d program ha =>
        obtain ⟨hk, hp⟩ := Retained.of_assess ha
        have fits (_ : H) (h : s.RecordFits x.record) := h.retargeted (by simpa using hq) hk hp
        simp only [State.retarget]
        split
        · exact State.setRecord_keepsYard hx (by simp) fits
        · exact State.changeRecord_keepsYard hx (by simp) fits

/-- A record names a class (R22). -/
theorem Compartment.names_iff (k : ClassNo) (c : Compartment) :
    c.names k = true ↔ k ∈ c.history ∨ c.intent = some k ∨ ∃ x ∈ c.release, x.releasedFor = k := by
  unfold Compartment.names
  cases c.release <;> simp [or_assoc]

/-- Writing a class entry keeps the laws where it defines the class or no record names it (R22, R23). -/
theorem State.setClass_keepsYard (k : ClassNo) (d : Option ClassDef)
    (hd : d.isSome = true ∨ s.anyRecord (Compartment.names k) = false) : s.KeepsYard H (s.setClass k d) := by
  refine ⟨id, id, fun _ h => ?_⟩
  rw [State.recordLaw_iff] at h ⊢
  intro hm r c hc
  obtain ⟨low, high, history, parts, names, progress, summary, released, fill⟩ := h hm r c hc
  have defined (j : ClassNo) (hj : c.names j = true) (old : (s.ret.classes[j]).isSome = true) :
      ((s.setClass k d).ret.classes[j]).isSome = true := by
    rw [State.setClass_classes, table_set]
    split
    next e =>
      subst e
      refine hd.elim id (fun hd => absurd ((s.anyRecord_iff _).mpr ⟨r, c, hc, hj⟩) (by simp [hd]))
    · exact old
  obtain ⟨old, intent, named⟩ := names
  refine ⟨low, high, history, parts, ⟨?_, ?_, ?_⟩, progress, summary, released, fill⟩
  · exact fun j hj => defined j ((c.names_iff j).mpr (.inl hj)) (old j hj)
  · exact fun j hj => defined j ((c.names_iff j).mpr (.inr (.inl hj))) (intent j hj)
  · exact fun x hx => defined _ ((c.names_iff _).mpr (.inr (.inr ⟨x, hx, rfl⟩))) (named x hx)

/-- WRITE-CLASS (R22). -/
theorem ownWriteClass_keepsYard (p : Port) (body : List Byte) : s.KeepsYard H (ownWriteClass p body s).1 := by
  unfold ownWriteClass
  split
  · split
    · exact .refl s
    · split_ifs with h0 hb
      · exact .refl s
      · exact State.setClass_keepsYard _ _ (.inr (by simpa using hb))
      · split
        · exact State.setClass_keepsYard _ _ (.inl rfl)
        · exact .refl s
  · exact .refl s

/-- Writing a program keeps the laws where no record washes under it (R29, R30). -/
theorem State.setProgram_keepsYard (k : ProgramNo) (phs : List Phase)
    (hu : s.anyRecord (Compartment.washesUnder k) = false) : s.KeepsYard H (s.setProgram k phs) := by
  refine ⟨id, id, fun _ h => ?_⟩
  rw [State.recordLaw_iff] at h ⊢
  intro hm r c hc
  obtain ⟨low, high, history, parts, names, progress, summary, released, fill⟩ := h hm r c hc
  refine ⟨low, high, history, parts, names, fun p hp => ?_, summary, released, fill⟩
  have hw : c.state.isWash = true := by
    obtain ⟨_, _, _, _, _, carried, _⟩ := parts
    rw [← carried, show c.progress = some p from hp]
    rfl
  have count : (s.setProgram k phs).phaseCount c = s.phaseCount c := by
    unfold State.phaseCount
    split
    next j hj =>
      rw [State.setProgram_programs, table_set, if_neg]
      rintro rfl
      have := (s.anyRecord_iff (Compartment.washesUnder j)).mpr
        ⟨r, c, hc, by simp [Compartment.washesUnder, hw, hj]⟩
      simp [hu] at this
    · rfl
  simpa only [State.ProgressFits, count] using progress p hp

/-- WRITE-PROGRAM (R29, R30). -/
theorem ownWriteProgram_keepsYard (p : Port) (body : List Byte) : s.KeepsYard H (ownWriteProgram p body s).1 := by
  unfold ownWriteProgram
  split
  · split_ifs
    · exact .refl s
    · exact .refl s
    · split
      · split_ifs with hb
        · exact .refl s
        · exact State.setProgram_keepsYard _ _ (by simpa using hb)
      · exact .refl s
  · exact .refl s

/-- WRITE-FOLLOW (R26). -/
theorem ownWriteFollow_keepsYard (p : Port) (body : List Byte) : s.KeepsYard H (ownWriteFollow p body s).1 := by
  unfold ownWriteFollow
  split
  · split_ifs
    · exact .refl s
    · split
      · exact ⟨id, id, fun _ => id⟩
      · exact .refl s
  · exact .refl s

/-! ## Inspection, release and the clock keep the laws -/

/-- INSPECT-PASS's change (R121). -/
theorem inspectPassOn_keepsYard {x : Named} (hx : s.ret.pool[x.ref] = some x.record) (inspector : Nat) :
    s.KeepsYard H (inspectPassOn x inspector s).1 := by
  unfold inspectPassOn
  split_ifs with _ hq
  · exact .refl s
  · exact .refl s
  · split
    next k hk =>
      have counted : s.KeepsYard H s.advanceCertificate := ⟨id, id, fun _ => id⟩
      refine counted.trans (State.changeRecord_keepsYard hx rfl (fun _ h => ?_))
      exact h.passed (by simpa using hq) hk rfl
    · exact .refl s

/-- A failed record keeps its number (R123). -/
@[simp] theorem Retained.failed_number (r : Retained) (c : Compartment) (upgrade : Bool) :
    (r.failed c upgrade).number = c.number := by
  unfold Retained.failed
  simp only
  split <;> rfl

/-- INSPECT-FAIL's change (R122, R123). -/
theorem inspectFailOn_keepsYard {x : Named} (hx : s.ret.pool[x.ref] = some x.record) (flag : Nat) :
    s.KeepsYard H (inspectFailOn x flag s).1 := by
  unfold inspectFailOn
  split_ifs with _ hq
  · exact .refl s
  · exact .refl s
  · exact State.changeRecord_keepsYard hx (by simp) (fun _ h => h.failed (by simpa using hq) _)

/-- A lapse (R126). -/
theorem State.lapse_keepsYard (s : State) (r : RecordRef) : s.KeepsYard H (s.lapse r) :=
  State.transition_keepsYard (fun _ => rfl) (fun _ hq _ h => h.lapsed (by simpa using hq))

/-- The first check of OPEN-YARD (R125, R173). -/
theorem State.lapseAll_keepsYard (s : State) : s.KeepsYard H s.lapseAll :=
  State.KeepsYard.foldl _ _ (fun s r _ => s.lapse_keepsYard r) s

/-- A check of the release timer (R125). -/
theorem State.timerCheck_keepsYard (s : State) : s.KeepsYard H s.timerCheck := by
  unfold State.timerCheck
  split
  · exact .of_same rfl rfl rfl
  · exact .refl s

/-- A lapse the timer sent (R126). -/
theorem State.lapseStep_keepsYard (s : State) (r : RecordRef) : s.KeepsYard H (s.lapseStep r) := by
  unfold State.lapseStep
  split
  · refine .trans ?_ (State.lapse_keepsYard _ r)
    exact .of_same rfl rfl rfl
  · exact .refl s

/-- The yard clock set (R128). -/
theorem State.setClockTo_keepsYard (s : State) (reading : Nat) : s.KeepsYard H (s.setClockTo reading) := by
  have get (k : RecordRef) : (s.setClockTo reading).ret.pool[k]
      = (s.ret.pool[k]).map (Compartment.shifted s.ret.clock reading) := by
    simp [State.setClockTo, mapTable_eq_map]
  have numbers (k : RecordRef) : ((s.setClockTo reading).ret.pool[k]).map (·.number)
      = (s.ret.pool[k]).map (·.number) := by
    rw [get]; cases s.ret.pool[k] <;> rfl
  refine ⟨?_, fun h => h.of_numbers rfl rfl rfl rfl numbers, fun _ h => ?_⟩
  · intro h hp j
    obtain ⟨hlines, hrefs⟩ := h hp j
    exact ⟨hlines, fun k hk => by simpa [get] using hrefs k hk⟩
  · rw [State.recordLaw_iff] at h ⊢
    intro hm k c hc
    rw [get] at hc
    obtain ⟨old, hold, rfl⟩ := Option.map_eq_some_iff.mp hc
    exact ((h hm k old hold).shifted _ _).of_tables rfl rfl

/-- A second of the yard clock (R172). -/
theorem State.clockSecond_keepsYard (s : State) : s.KeepsYard H s.clockSecond := by
  unfold State.clockSecond
  split
  · exact ⟨id, id, fun _ => id⟩
  · exact .refl s

/-! ## Filling keeps the laws -/

/-- FILL-START's change (R133, R134). -/
theorem fillStartOn_keepsYard {x : Named} (hx : s.ret.pool[x.ref] = some x.record) (cargo preset : Nat) :
    s.KeepsYard H (fillStartOn x cargo preset s).1 := by
  unfold fillStartOn
  split
  · exact .refl s
  · split
    · exact .refl s
    · split
      next rel hq hrel =>
        split_ifs with _ _ hp
        · exact s.lapse_keepsYard _
        · exact .refl s
        · exact .refl s
        · exact .thenChange hx rfl (fun _ h => h.filling hq hrel hp) rfl rfl rfl
      · exact .refl s

/-- A pulse of the rack's meter (R135, R136, R138). -/
theorem State.rackPulse_keepsYard (s : State) : s.KeepsYard H s.rackPulse := by
  unfold State.rackPulse
  split
  · exact .refl s
  next r _ =>
    split
    · exact .refl s
    next c hc =>
      split
      next f hq hf =>
        simp only
        set x := f.pulse (s.ret.meterConstant .rack) c.capacity (!(s.hold .rack).nonEmpty)
        have joined : s.KeepsYard H (if x.overfilled then s.joinOverfill else s) := by
          split
          · exact .of_same rfl rfl rfl
          · exact .refl s
        have hc' : (if x.overfilled then s.joinOverfill else s).ret.pool[r] = some c := by split <;> exact hc
        generalize (if x.overfilled then s.joinOverfill else s) = s1 at joined hc' ⊢
        refine joined.trans ?_
        have counted : x.fill.counted ≤ 999999 := Nat.min_le_right _ _
        split
        · exact State.changeRecord_keepsYard (c' := { c with fill := some x.fill }) hc' rfl
            (fun _ h => h.fillUpdated hf rfl rfl counted)
        · exact State.setRecord_keepsYard (c' := { c with fill := some x.fill }) hc' rfl
            (fun _ h => h.fillUpdated hf rfl rfl counted)
      · exact .refl s

/-- The rack fill unit's STOPPED update (R137). -/
theorem State.stoppedStep_keepsYard (s : State) : s.KeepsYard H s.stoppedStep := by
  unfold State.stoppedStep
  split
  · simp only
    split
    · exact .of_same rfl rfl rfl
    · refine .trans ?_ (State.transition_keepsYard (fun c => ?_) (fun c _ _ h => ?_))
      · exact .of_same rfl rfl rfl
      · rfl
      cases hf : c.fill with
      | none =>
        have : c.stopped = c := by cases c; simp_all [Compartment.stopped]
        rwa [this]
      | some f =>
        obtain ⟨-, -, -, counted⟩ := h.fill f hf
        simpa [Compartment.stopped, hf] using h.fillUpdated hf
          (f' := { f with marks := { f.marks with stopped := true } }) rfl rfl counted
  · exact .refl s

/-- FILL-END's change (R139, R140). -/
theorem fillEndOn_keepsYard {x : Named} (hx : s.ret.pool[x.ref] = some x.record) (litres : Nat) :
    s.KeepsYard H (fillEndOn x litres s).1 := by
  unfold fillEndOn
  split
  next f hq hf => exact .thenChange hx rfl (fun _ h => h.ladenWith hq hf rfl rfl rfl) rfl rfl rfl
  · exact .refl s

/-- FILL-ABORT's change (R141, R142). -/
theorem fillAbortOn_keepsYard {x : Named} (hx : s.ret.pool[x.ref] = some x.record) :
    s.KeepsYard H (fillAbortOn x s).1 := by
  unfold fillAbortOn
  split
  next f hq hf =>
    split
    · exact .thenChange hx rfl (fun _ h => h.backToReleased hq) rfl rfl rfl
    · exact .thenChange hx rfl (fun _ h => h.ladenWith hq hf rfl rfl rfl) rfl rfl rfl
  · exact .refl s

end Sys2Proof.Machine
end

section
namespace Sys2Proof.Machine

variable {H : Prop} {s t u : State}

/-! ## Lines, instruments and settings keep the laws -/

/-- A line joins a hold set (R149). -/
theorem State.joinHold_keepsYard (s : State) (p : Position) (l : Line) : s.KeepsYard H (s.joinHold p l) := by
  unfold State.joinHold State.rackHeld
  simp only
  split
  · split <;> exact .of_same rfl rfl rfl
  · exact .of_same rfl rfl rfl

/-- The action of a line become active (R149). -/
theorem State.lineAction_keepsYard (s : State) (l : Line) (a : Action) : s.KeepsYard H (s.lineAction l a) := by
  cases a with
  | note => exact .refl s
  | holdBay b => exact s.joinHold_keepsYard (.bay b) l
  | holdAll =>
    exact (((s.joinHold_keepsYard (.bay 0) l).trans (State.joinHold_keepsYard _ (.bay 1) l)).trans
      (State.joinHold_keepsYard _ (.bay 2) l)).trans (State.joinHold_keepsYard _ (.bay 3) l)
  | stopRack => exact s.joinHold_keepsYard .rack l
  | blockGrants => exact .of_same rfl rfl rfl

/-- A line's action leaves the retained domain alone. -/
@[simp] theorem State.lineAction_ret (s : State) (l : Line) (a : Action) : (s.lineAction l a).ret = s.ret := by
  have join (s : State) (p : Position) : (s.joinHold p l).ret = s.ret := by
    unfold State.joinHold State.rackHeld
    simp only
    split
    · split <;> rfl
    · rfl
  cases a <;> simp [State.lineAction, join, State.setBlockLine]

/-- The notices of a line become active, under its own route (R149). -/
theorem State.lineNotices_keepsYard (l : Line) {ports : PortSet} (hr : (s.ret.routes[l]).notify = ports) :
    s.KeepsYard H (s.lineNotices l ports) := by
  unfold State.lineNotices
  generalize allPorts = ps
  induction ps generalizing s with
  | nil => exact .refl s
  | cons p ps ih =>
    simp only [List.foldl_cons]
    split
    next h => exact (State.addPending_keepsYard (by rw [hr]; exact h)).trans (ih hr)
    · exact ih hr

/-- A line becomes active under its own route (R149). -/
theorem State.lineBecomesActive_keepsYard {l : Line} {e : Route} (hr : s.ret.routes[l] = e) :
    s.KeepsYard H (s.lineBecomesActive l e) := by
  unfold State.lineBecomesActive
  split
  · exact .refl s
  · exact (s.lineAction_keepsYard l _).trans (State.lineNotices_keepsYard l (by simp [hr]))

/-- A sample of a field line (R147, R149, R150). -/
theorem State.sampleLine_keepsYard (s : State) (l : Line) (level : Level) : s.KeepsYard H (s.sampleLine l level) := by
  have sampled (f : Filter) : s.KeepsYard H (s.setLine l f) := .of_same rfl rfl rfl
  unfold State.sampleLine
  simp only
  split_ifs
  · exact (sampled _).trans (State.lineBecomesActive_keepsYard rfl)
  · exact .of_same rfl rfl rfl
  · exact sampled _

/-- RESUME's change (R152). -/
theorem resumeAt_keepsYard (p : Position) (s : State) : s.KeepsYard H (resumeAt p s).1 := by
  unfold resumeAt
  split
  · exact .refl s
  · exact .of_same rfl rfl rfl

/-- What trimming does to the pending sets (R155): a port's own keeps no line but those it had, and not the line where
the port is dropped from its notify set; the changed sets and everything else stand. -/
structure State.Trimmed (s t : State) (l : Line) (old new : PortSet) (ps : List Port) : Prop where
  ret : t.ret = s.ret
  power : t.mainPower = s.mainPower
  changed : ∀ j : Fin 6, (t.act.notices[j]).changed = (s.act.notices[j]).changed
  lines : ∀ (j : Fin 6) (k : Line), (t.act.notices[j]).pendingLines[k] = true →
    (s.act.notices[j]).pendingLines[k] = true
      ∧ (k = l → ∀ p ∈ ps, p.index = j → old[j] = true → new[j] = true)

/-- Trimming the pending sets port by port (R155). -/
theorem State.trimmed_foldl (s : State) (l : Line) (old new : PortSet) (ps : List Port) :
    s.Trimmed (ps.foldl (fun s p => if old[p.index] && !new[p.index] then s.dropPending p l else s) s) l old new ps := by
  induction ps generalizing s with
  | nil => exact ⟨rfl, rfl, fun _ => rfl, fun _ _ h => ⟨h, fun _ p hp => by cases hp⟩⟩
  | cons p ps ih =>
    simp only [List.foldl_cons]
    split
    next hd =>
      obtain ⟨ret, power, changed, lines⟩ := ih (s.dropPending p l)
      refine ⟨ret, power, fun j => ?_, fun j k hk => ?_⟩
      · rw [changed j, State.dropPending, State.setNotice_notices, table_set]
        split
        next e => subst e; rfl
        · rfl
      · obtain ⟨was, kept⟩ := lines j k hk
        rw [State.dropPending, State.setNotice_notices, table_set] at was
        split at was
        next e =>
          subst e
          rw [Notice.settled, table_set] at was
          split at was
          · cases was
          next hkl => exact ⟨was, fun e => absurd e hkl⟩
        next hj =>
          refine ⟨was, fun e q hq hqj => ?_⟩
          rcases List.mem_cons.mp hq with rfl | hq
          · exact absurd hqj.symm hj
          · exact kept e q hq hqj
    next hd =>
      obtain ⟨ret, power, changed, lines⟩ := ih s
      refine ⟨ret, power, changed, fun j k hk => ?_⟩
      obtain ⟨was, kept⟩ := lines j k hk
      refine ⟨was, fun e q hq hqj => ?_⟩
      rcases List.mem_cons.mp hq with rfl | hq
      · subst hqj
        simpa using hd
      · exact kept e q hq hqj

/-- A route entry written, and the ports it drops trimmed (R155). -/
theorem State.setRoute_trimPending_keepsYard (s : State) (l : Line) (e : Route) :
    s.KeepsYard H ((s.setRoute l e).trimPending l (s.ret.routes[l]).notify e.notify)
      ∧ ((s.setRoute l e).trimPending l (s.ret.routes[l]).notify e.notify).ret = (s.setRoute l e).ret := by
  have everyPort : ∀ j : Fin 6, ∃ p ∈ allPorts, p.index = j := by decide
  obtain ⟨ret, power, changed, lines⟩ := (s.setRoute l e).trimmed_foldl l (s.ret.routes[l]).notify e.notify allPorts
  refine ⟨?_, ret⟩
  change State.KeepsYard H s (allPorts.foldl _ _)
  generalize allPorts.foldl _ _ = t at ret power changed lines ⊢
  have same : (t.ret.tankers = s.ret.tankers ∧ t.ret.freeList = s.ret.freeList ∧ t.ret.bindings = s.ret.bindings
      ∧ t.ret.markerValid = s.ret.markerValid ∧ t.ret.pool = s.ret.pool) := by rw [ret]; exact ⟨rfl, rfl, rfl, rfl, rfl⟩
  obtain ⟨tankers, freeList, bindings, marker, pool⟩ := same
  refine ⟨?_, fun h => h.of_numbers tankers freeList bindings marker (fun k => by rw [pool]), fun _ h => ?_⟩
  · intro h hp j
    obtain ⟨hlines, hrefs⟩ := h (power ▸ hp) j
    refine ⟨fun k hk => ?_, fun r hr => by rw [pool]; exact hrefs r (changed j ▸ hr)⟩
    obtain ⟨was, kept⟩ := lines j k hk
    rw [ret, State.setRoute_routes, table_set]
    split
    next ekl =>
      obtain ⟨p, hp, hpj⟩ := everyPort j
      exact kept ekl p hp hpj (ekl ▸ hlines k was)
    · exact hlines k was
  · rw [State.recordLaw_iff] at h ⊢
    rw [marker, pool]
    exact fun hm k c hc => (h hm k c hc).of_tables (by rw [ret]; rfl) (by rw [ret]; rfl)

/-- WRITE-ROUTE's change (R155). -/
theorem State.reroute_keepsYard (s : State) (l : Line) (e : Route) : s.KeepsYard H (s.reroute l e) := by
  obtain ⟨trimmed, ret⟩ := State.setRoute_trimPending_keepsYard (H := H) s l e
  unfold State.reroute
  simp only
  generalize (s.setRoute l e).trimPending l (s.ret.routes[l]).notify e.notify = s1 at trimmed ret ⊢
  have blocked : s.KeepsYard H (s1.setBlockLine l (s1.lineActive l && !e.masked && e.action == .blockGrants)) :=
    trimmed.trans (.of_same rfl rfl rfl)
  split
  · refine blocked.trans (State.lineBecomesActive_keepsYard ?_)
    change s1.ret.routes[l] = e
    rw [ret, State.setRoute_routes, table_set, if_pos rfl]
  · exact blocked

/-- EVENTS (R159). -/
theorem ownEvents_keepsYard (p : Port) (body : List Byte) : s.KeepsYard H (ownEvents p body s).1 :=
  State.setNotice_keepsYard (fun _ => Or.inl) (fun r hr => by simp [noneOf] at hr)

/-- ACK-LINE (R160). -/
theorem ownAckLine_keepsYard (p : Port) (body : List Byte) : s.KeepsYard H (ownAckLine p body s).1 := by
  unfold ownAckLine
  split
  · split
    · exact .refl s
    next line _ =>
      split
      next h =>
        have named : (s.ret.routes[line]).notify[p.index] = true := by
          simp only [State.readds, Bool.and_eq_true] at h
          exact h.1.2
        exact State.addPending_keepsYard named
      · exact State.dropPending_keepsYard p _
  · exact .refl s

/-- A sample delivered to its recipients (R104). -/
theorem State.deliverSample_keepsYard (ch : Probe) (sample : Option Nat) (hr : H → s.WashRanges) :
    s.KeepsYard H (s.deliverSample ch sample) := by
  unfold State.deliverSample State.supplySample
  split_ifs
  · split <;> exact .of_same rfl rfl rfl
  · exact .of_same rfl rfl rfl
  · exact State.conductivitySample_keepsYard _ _ hr

/-- A conversion (R101, R103, R104). -/
theorem State.convert_keepsYard (ch : Probe) (code : Code) (hr : H → s.WashRanges) :
    s.KeepsYard H (s.convert ch code) := by
  unfold State.convert
  split
  · refine .trans ?_ (State.deliverSample_keepsYard _ _ (fun hH => ⟨(hr hH).count, (hr hH).phases, (hr hH).counters⟩))
    exact .of_same rfl rfl rfl
  · exact .refl s

/-- A sample of a meter (R107, R108). -/
theorem State.samplePulse_keepsYard (s : State) (m : Position) (level : Level) :
    s.KeepsYard H (s.samplePulse m level) := by
  have sampled (c : PulseChannel) : s.KeepsYard H (s.setPulse m c) := .of_same rfl rfl rfl
  unfold State.samplePulse
  simp only
  split
  · cases m with
    | bay b => exact (sampled _).trans (State.bayPulse_keepsYard b)
    | rack => exact (sampled _).trans (State.rackPulse_keepsYard _)
  · exact sampled _

/-- A tick of a sweep (R113). -/
theorem State.sweepStep_keepsYard (s : State) (b : Bay) : s.KeepsYard H (s.sweepStep b) := by
  unfold State.sweepStep
  simp only
  split
  · exact .of_same rfl rfl rfl
  · exact .refl s

/-- A setting stored, with its effect (R175). -/
theorem State.storeSetting_keepsYard (s : State) (i : Fin 25) (v : Nat) :
    s.KeepsYard H ((s.storeSetting i v).settingEffect i v) := by
  have stored : s.KeepsYard H (s.storeSetting i v) := ⟨id, id, fun _ => id⟩
  refine stored.trans ?_
  unfold State.settingEffect
  split
  · exact .of_same rfl rfl rfl
  · split
    · exact .refl _
    · simp only
      split
      · exact .of_same rfl rfl rfl
      · exact .refl _

end Sys2Proof.Machine
end

section
namespace Sys2Proof.Machine

variable {H : Prop} {s t u : State}

/-! ## Tables written at several places -/

/-- Reading a table after one value is written at each of some places. -/
theorem table_foldl_set {α : Type} {n : Nat} (ks : List (Fin n)) (x : α) (v : Vector α n) (j : Fin n) :
    (ks.foldl (fun v k => v.set k x) v)[j] = if j ∈ ks then x else v[j] := by
  induction ks generalizing v with
  | nil => simp
  | cons k ks ih =>
    simp only [List.foldl_cons, ih, table_set, List.mem_cons]
    by_cases h : j ∈ ks <;> by_cases hk : j = k <;> simp [h, hk]

/-! ## Departing -/

/-- Freeing records writes the pool and nothing else (R11). -/
theorem State.freeRecords_eq (s : State) (ks : List RecordRef) :
    s.freeRecords ks = { s with ret := { s.ret with
      pool := ks.foldl (fun v (k : RecordRef) => v.set k none) s.ret.pool } } := by
  induction ks generalizing s with
  | nil => rfl
  | cons k ks ih => rw [State.freeRecords, ih]; rfl

/-- A taken DEPART, as a whole next state (R11). -/
theorem State.depart_eq (s : State) (i : Slot) (t : Tanker) :
    s.depart i t = { s with
      ret := { s.ret with
        pool := t.compartments.foldl (fun v (r : RecordRef) => v.set r none) s.ret.pool
        freeList := s.ret.freeList ++ t.compartments
        tankers := s.ret.tankers.set i none }
      act := { s.act with notices := mapTable (fun n => n.without t.compartments) s.act.notices } } := by
  rw [State.depart, State.freeRecords_eq]

/-- The references of a tanker's list name records in use (R1). -/
theorem Retained.ListsOwn.inUse {r : Retained} {t : Tanker} (h : r.ListsOwn t) {k : RecordRef}
    (hk : k ∈ t.compartments) : (r.pool[k]).isSome = true := by
  obtain ⟨-, -, eight, -, numbered⟩ := h
  obtain ⟨n, hn, rfl⟩ := List.mem_iff_getElem.mp hk
  obtain ⟨c, hc, -⟩ := numbered ⟨n, by omega⟩ _ (List.getElem?_eq_getElem hn)
  simp [show r.pool[t.compartments[n]] = some c from hc]

/-- A tanker's list reads the pool only at its own references. -/
theorem Retained.ListsOwn.of_pool {r r' : Retained} {t : Tanker} (h : r.ListsOwn t)
    (pool : ∀ k ∈ t.compartments, r'.pool[k] = r.pool[k]) : r'.ListsOwn t := by
  obtain ⟨token, one, eight, once, numbered⟩ := h
  refine ⟨token, one, eight, once, fun n k hk => ?_⟩
  rw [pool k (List.mem_of_getElem? hk)]
  exact numbered n k hk

/-- A departure keeps the law of the notices: the freed references leave every changed set (R11, R159). -/
theorem State.depart_pendingLaw (h : s.PendingLaw) (i : Slot) (x : Tanker) : (s.depart i x).PendingLaw := by
  intro hp j
  rw [State.depart_eq] at hp ⊢
  obtain ⟨lines, refs⟩ := h hp j
  simp only [mapTable_eq_map, Fin.getElem_fin, Vector.getElem_map]
  refine ⟨lines, fun r hr => ?_⟩
  change (x.compartments.foldl (fun (v : RefSet) (r : RecordRef) => v.set r false) (s.act.notices[j]).changed)[r]
    = true at hr
  rw [table_foldl_set] at hr
  change (((x.compartments.foldl (fun v (r : RecordRef) => v.set r none) s.ret.pool))[r]).isSome = true
  rw [table_foldl_set]
  split at hr
  · cases hr
  next hn => rw [if_neg hn]; exact refs r hr

/-- A departure keeps the law of the records (R11). -/
theorem State.depart_recordLaw (h : s.RecordLaw) (i : Slot) (x : Tanker) : (s.depart i x).RecordLaw := by
  rw [State.recordLaw_iff] at h ⊢
  rw [State.depart_eq]
  intro hm k c hc
  change (x.compartments.foldl (fun v (r : RecordRef) => v.set r none) s.ret.pool)[k] = some c at hc
  rw [table_foldl_set] at hc
  split at hc
  · cases hc
  · exact (h hm k c hc).of_tables rfl rfl

/-- A departure of an unbound tanker keeps the law of the yard table (R2, R11). -/
theorem State.depart_yardTableLaw (h : s.YardTableLaw) {i : Slot} {x : Tanker} (hx : s.ret.tankers[i] = some x)
    (hb : x.binding = none) : (s.depart i x).YardTableLaw := by
  rw [State.depart_eq]
  intro hm
  obtain ⟨nodup, free, listed, own, apart, bound, binds⟩ := h hm
  obtain ⟨-, -, -, once, -⟩ := own i x hx
  have pool (k : RecordRef) : (x.compartments.foldl (fun v (r : RecordRef) => v.set r none) s.ret.pool)[k]
      = if k ∈ x.compartments then none else s.ret.pool[k] := table_foldl_set _ _ _ _
  have tanker (j : Slot) (y : Tanker) (hy : y ∈ (s.ret.tankers.set i none)[j]) : j ≠ i ∧ y ∈ s.ret.tankers[j] := by
    rw [table_set] at hy
    split at hy
    · cases hy
    next hj => exact ⟨hj, hy⟩
  have stays (j : Slot) (hj : j ≠ i) : (s.ret.tankers.set i none)[j] = s.ret.tankers[j] := by
    rw [table_set, if_neg hj]
  refine ⟨List.nodup_append.mpr ⟨nodup, once, ?_⟩, ?_, ?_, ?_, ?_, ?_, ?_⟩
  · rintro k hk _ hk' rfl
    have used := (own i x hx).inUse hk'
    rw [Option.isNone_iff_eq_none.mp ((free k).mpr hk)] at used
    cases used
  · intro k
    change ((x.compartments.foldl (fun v (r : RecordRef) => v.set r none) s.ret.pool)[k]).isNone = true ↔ _
    rw [pool, List.mem_append, ← free k]
    by_cases hk : k ∈ x.compartments <;> simp [hk]
  · intro k hk
    change ((x.compartments.foldl (fun v (r : RecordRef) => v.set r none) s.ret.pool)[k]).isSome = true at hk
    rw [pool] at hk
    split at hk
    · cases hk
    next hn =>
      obtain ⟨j, y, hy, hin⟩ := listed k hk
      have hj : j ≠ i := by
        rintro rfl
        cases hx.symm.trans hy
        exact hn hin
      exact ⟨j, y, (stays j hj).symm ▸ hy, hin⟩
  · intro j y hy
    obtain ⟨hj, hy⟩ := tanker j y hy
    refine (own j y hy).of_pool (fun k hk => ?_)
    obtain ⟨-, disjoint⟩ := apart j i hj y hy x hx
    exact (pool k).trans (if_neg (disjoint k hk))
  · intro j j' hne y hy y' hy'
    exact apart j j' hne y (tanker j y hy).2 y' (tanker j' y' hy').2
  · intro q j hj
    obtain ⟨y, hy, p, hp, hq⟩ := bound q j hj
    have hji : j ≠ i := by
      rintro rfl
      cases hx.symm.trans hy
      simp [hb] at hp
    exact ⟨y, (stays j hji).symm ▸ hy, p, hp, hq⟩
  · intro j y hy
    exact binds j y (tanker j y hy).2

/-- The tanker in a slot named by its number stands there. -/
theorem State.of_tankerAt {n : Nat} {i : Slot} {x : Tanker} (h : s.tankerAt n = some (i, x)) :
    n = i.val + 1 ∧ s.ret.tankers[i] = some x := by
  unfold State.tankerAt at h
  split at h
  next hn =>
    obtain ⟨y, hy, e⟩ := Option.map_eq_some_iff.mp h
    cases e
    exact ⟨by simp only; omega, hy⟩
  · cases h

/-- DEPART (R11). -/
theorem ownDepart_keepsYard (p : Port) (body : List Byte) : s.KeepsYard H (ownDepart p body s).1 := by
  unfold ownDepart
  split
  · split
    · exact .refl s
    next i x hx =>
      split_ifs with hb
      · exact .refl s
      · exact .refl s
      · exact ⟨fun h => s.depart_pendingLaw h i x,
          fun h => s.depart_yardTableLaw h (State.of_tankerAt hx).2 (by simpa using hb),
          fun _ h => s.depart_recordLaw h i x⟩
  · exact .refl s

/-! ## Docking and undocking -/

/-- A binding set or cleared on both sides changes no list (R12). -/
theorem State.lists_setTanker (i : Slot) {x : Tanker} (hx : s.ret.tankers[i] = some x) (b : Option Position)
    (j : Slot) : ((s.ret.tankers.set i (some { x with binding := b }))[j]).map (fun y => (y.token, y.compartments))
      = (s.ret.tankers[j]).map (fun y => (y.token, y.compartments)) := by
  rw [table_set]
  split
  next e => rw [e, hx]; rfl
  · rfl

/-- A free tanker bound to a free position (R12, R13). -/
theorem State.bindTanker_keepsYard {p : Position} {i : Slot} {x : Tanker} (hx : s.ret.tankers[i] = some x)
    (hp : s.binding p = none) (hb : x.binding = none) : s.KeepsYard H (s.bindTanker p i x) := by
  refine ⟨id, fun h => h.of_lists rfl rfl (fun _ => rfl) (State.lists_setTanker i hx _) ?_ ?_, fun _ => id⟩ <;> intro hm
  · obtain ⟨-, -, -, -, -, bound, -⟩ := h hm
    intro q j hj
    simp only [State.bindTanker, State.setTanker_bindings, State.setBinding_bindings, State.setTanker_tankers,
      State.setBinding_tankers, table_set] at hj ⊢
    split at hj
    next hq =>
      cases hj
      exact ⟨{ x with binding := some p }, by simp, p, rfl, hq.symm⟩
    · obtain ⟨y, hy, p', hp', hq'⟩ := bound q j hj
      have hji : j ≠ i := by
        rintro rfl
        cases hx.symm.trans hy
        simp [hb] at hp'
      exact ⟨y, by rw [if_neg hji]; exact hy, p', hp', hq'⟩
  · obtain ⟨-, -, -, -, -, -, binds⟩ := h hm
    intro j y hy p' hp'
    simp only [State.bindTanker, State.setTanker_bindings, State.setBinding_bindings, State.setTanker_tankers,
      State.setBinding_tankers, table_set] at hy ⊢
    split at hy
    next hj =>
      cases hy
      cases hp'
      simp [hj]
    · have old := binds j y hy p' hp'
      have : p'.index ≠ p.index := by
        intro e
        cases Position.index_injective _ _ e
        cases old.symm.trans hp
      rw [if_neg this, old]

/-- A bound tanker taken from its position (R12, R14, R15). -/
theorem State.unbindTanker_keepsYard {p : Position} {i : Slot} {x : Tanker} (hx : s.ret.tankers[i] = some x)
    (hp : s.binding p = some i) : s.KeepsYard H (s.unbindTanker p i x) := by
  refine ⟨id, fun h => h.of_lists rfl rfl (fun _ => rfl) (State.lists_setTanker i hx _) ?_ ?_, fun _ => id⟩ <;> intro hm
  · obtain ⟨-, -, -, -, -, bound, -⟩ := h hm
    intro q j hj
    simp only [State.unbindTanker, State.setTanker_bindings, State.setBinding_bindings, State.setTanker_tankers,
      State.setBinding_tankers, table_set] at hj ⊢
    split at hj
    · cases hj
    next hq =>
      obtain ⟨y, hy, p', hp', hq'⟩ := bound q j hj
      obtain ⟨z, hz, p'', hp'', hq''⟩ := bound p.index i hp
      have hji : j ≠ i := by
        rintro rfl
        cases hy.symm.trans hz
        cases hp'.symm.trans hp''
        exact hq (hq'.symm.trans hq'')
      exact ⟨y, by rw [if_neg hji]; exact hy, p', hp', hq'⟩
  · obtain ⟨-, -, -, -, -, -, binds⟩ := h hm
    intro j y hy p' hp'
    simp only [State.unbindTanker, State.setTanker_bindings, State.setBinding_bindings, State.setTanker_tankers,
      State.setBinding_tankers, table_set] at hy ⊢
    split at hy
    · cases hy
      cases hp'
    next hj =>
      have old := binds j y hy p' hp'
      have : p'.index ≠ p.index := by
        intro e
        cases Position.index_injective _ _ e
        exact hj (Option.some.inj (old.symm.trans hp))
      rw [if_neg this, old]

/-- A bound tanker stands in the slot its position is bound to. -/
theorem State.of_boundTanker {p : Position} {i : Slot} {x : Tanker} (h : s.boundTanker p = some (i, x)) :
    s.binding p = some i ∧ s.ret.tankers[i] = some x := by
  unfold State.boundTanker at h
  split at h
  next j hj =>
    obtain ⟨y, hy, e⟩ := Option.map_eq_some_iff.mp h
    cases e
    exact ⟨hj, hy⟩
  · cases h

/-- DOCK (R13). -/
theorem ownDock_keepsYard (p : Port) (body : List Byte) : s.KeepsYard H (ownDock p body s).1 := by
  unfold ownDock
  split
  · exact .refl s
  · split
    · exact .refl s
    · split
      · exact .refl s
      next x hx =>
        unfold dockAt
        split_ifs with _ hb
        · exact .refl s
        · exact .refl s
        · exact .refl s
        · obtain ⟨free, unbound⟩ := not_or.mp hb
          exact State.bindTanker_keepsYard hx (by simpa using unbound) (by simpa using free)

/-- UNDOCK (R14, R15). -/
theorem ownUndock_keepsYard (p : Port) (body : List Byte) : s.KeepsYard H (ownUndock p body s).1 := by
  unfold ownUndock
  split
  · exact .refl s
  · split
    · exact .refl s
    next i x hx =>
      obtain ⟨hp, hi⟩ := State.of_boundTanker hx
      split
      · exact .refl s
      · exact State.unbindTanker_keepsYard hi hp

end Sys2Proof.Machine
end

section
namespace Sys2Proof.Machine

variable {H : Prop} {s t u : State}

/-! ## Reading an ADMIT body -/

/-- A list read element by element comes out exactly when each element does. -/
theorem mapM_eq_some_iff {α β : Type} {f : α → Option β} {l : List α} {l' : List β} :
    l.mapM f = some l' ↔ List.Forall₂ (fun a b => f a = some b) l l' := by
  induction l generalizing l' with
  | nil => cases l' <;> simp
  | cons a l ih =>
    cases l' with
    | nil => simp [Option.bind_eq_some_iff]
    | cons b l' => simp [Option.bind_eq_some_iff, ← ih]

/-- A list read element by element does not come out when some element does not. -/
theorem mapM_eq_none_iff {α β : Type} {f : α → Option β} {l : List α} :
    l.mapM f = none ↔ ∃ a ∈ l, f a = none := by
  induction l with
  | nil => simp
  | cons a l ih =>
    cases ha : f a with
    | none => simp [ha]
    | some b => cases hl : l.mapM f <;> simp_all

/-- A token character is an upper-case letter or a digit (R1). -/
theorem isTokenChar_iff (b : Byte) : isTokenChar b = true ↔ TokenChar b := by simp [isTokenChar]

/-- The token read from some characters: its own, followed by spaces only (R9). -/
theorem tokenOf_eq_some_iff {bs token : List Byte} :
    tokenOf bs = some token ↔
      token ≠ [] ∧ (∀ b ∈ token, TokenChar b) ∧ bs = token ++ List.replicate (bs.length - token.length) space := by
  unfold tokenOf
  simp only [Option.ite_none_right_eq_some, Option.some.injEq]
  constructor
  · rintro ⟨⟨hne, hsp⟩, rfl⟩
    refine ⟨hne, fun b hb => (isTokenChar_iff b).mp (List.mem_takeWhile_imp hb), ?_⟩
    have split : bs.takeWhile isTokenChar ++ bs.dropWhile isTokenChar = bs := List.takeWhile_append_dropWhile
    have rest : bs.dropWhile isTokenChar = List.replicate (bs.dropWhile isTokenChar).length space :=
      List.eq_replicate_length.mpr (by simpa using hsp)
    have length := congrArg List.length split
    rw [List.length_append] at length
    rw [show bs.length - (bs.takeWhile isTokenChar).length = (bs.dropWhile isTokenChar).length by omega, ← rest, split]
  · rintro ⟨hne, hchars, hbs⟩
    have chars : ∀ b ∈ token, isTokenChar b = true := fun b hb => (isTokenChar_iff b).mpr (hchars b hb)
    have stop : (List.replicate (bs.length - token.length) space).takeWhile isTokenChar = [] := by
      cases bs.length - token.length with
      | zero => rfl
      | succ n => simp [List.replicate_succ, show isTokenChar space = false by decide]
    have all : (List.replicate (bs.length - token.length) space).dropWhile isTokenChar
        = List.replicate (bs.length - token.length) space := by
      cases bs.length - token.length with
      | zero => rfl
      | succ n => simp [List.replicate_succ, show isTokenChar space = false by decide]
    rw [hbs, List.takeWhile_append_of_pos chars, List.dropWhile_append_of_pos chars, stop, all]
    simp [hne]

/-- A token read from at most eight characters fits (R1). -/
theorem tokenFits_of_tokenOf {bs token : List Byte} (h : tokenOf bs = some token) (hl : bs.length ≤ 8) :
    TokenFits token := by
  obtain ⟨hne, chars, hbs⟩ := tokenOf_eq_some_iff.mp h
  have := congrArg List.length hbs
  rw [List.length_append] at this
  exact ⟨hne, by omega, chars⟩

/-- As many compartments are read as the count says (R9). -/
theorem length_of_sentCompartments {n : Nat} {bs : List Byte} {sent : List SentCompartment}
    (h : sentCompartments n bs = some sent) : sent.length = n := by
  induction n generalizing bs sent with
  | zero => cases bs <;> simp_all [sentCompartments]
  | succ n ih =>
    rcases bs with _ | ⟨c1, _ | ⟨c2, _ | ⟨length, rest⟩⟩⟩ <;> simp only [sentCompartments] at h
    case cons.cons.cons =>
      split at h
      · obtain ⟨later, hlater, rfl⟩ := Option.map_eq_some_iff.mp h
        simp [ih hlater]
      · cases h
    all_goals cases h

/-- Compartments read in range (R9). -/
theorem of_admittedCompartments {sent : List SentCompartment} {cs : List (Nat × List ClassNo)}
    (h : admittedCompartments sent = some cs) :
    cs.length = sent.length ∧ ∀ c ∈ cs, 500 ≤ c.1 ∧ c.1 ≤ 30000 ∧ c.2.length ≤ 3 := by
  have pairs := mapM_eq_some_iff.mp h
  refine ⟨pairs.length_eq.symm, ?_⟩
  clear h
  induction pairs with
  | nil => simp
  | cons hab _ ih =>
    rintro c (_ | ⟨_, hc⟩)
    · obtain ⟨history, hh, rfl⟩ := Option.map_eq_some_iff.mp hab
      unfold SentCompartment.history? at hh
      split at hh
      next hr =>
        have := (mapM_eq_some_iff.mp hh).length_eq
        exact ⟨hr.2.1, hr.2.2, by simp only; omega⟩
      · cases hh
    · exact ih c hc

/-! ## A tanker taken in -/

/-- Records written one after another, as a fold over the list and its numbers. -/
theorem State.admitRecords_eq_foldl (s : State) (n : Nat) (xs : List (RecordRef × Nat × List ClassNo)) :
    s.admitRecords n xs = (xs.zipIdx n).foldl
      (fun (t : State) x => t.changeRecord x.1.1 (newCompartment (x.2 + 1) x.1.2.1 x.1.2.2)) s := by
  induction xs generalizing s n with
  | nil => rfl
  | cons x xs ih => rw [State.admitRecords, ih]; rfl

/-- What writing the new records leaves: the pool changed at their references only, where each stands numbered by its
place, and the notices (R10). -/
theorem State.admitRecords_frame (s : State) (n : Nat) (xs : List (RecordRef × Nat × List ClassNo)) :
    ∃ pool notices, s.admitRecords n xs
        = { s with ret := { s.ret with pool := pool }, act := { s.act with notices := notices } }
      ∧ (∀ k : RecordRef, k ∉ xs.map Prod.fst → pool[k] = s.ret.pool[k])
      ∧ ((xs.map Prod.fst).Nodup → ∀ j x, xs[j]? = some x →
          pool[x.1] = some (newCompartment (n + j + 1) x.2.1 x.2.2)) := by
  induction xs generalizing s n with
  | nil => exact ⟨s.ret.pool, s.act.notices, rfl, fun _ _ => rfl, fun _ j x hx => by simp at hx⟩
  | cons x xs ih =>
    obtain ⟨r, capacity, history⟩ := x
    obtain ⟨v, hv⟩ := s.changeRecord_frame r (newCompartment (n + 1) capacity history)
    obtain ⟨pool, notices, h, others, written⟩ :=
      ih (s.changeRecord r (newCompartment (n + 1) capacity history)) (n + 1)
    have start (k : RecordRef) : (s.changeRecord r (newCompartment (n + 1) capacity history)).ret.pool[k]
        = if k = r then some (newCompartment (n + 1) capacity history) else s.ret.pool[k] := by
      rw [hv]; exact table_set _ _ _ _
    refine ⟨pool, notices, by rw [State.admitRecords, h, hv], fun k hk => ?_, fun hn j y hy => ?_⟩
    · simp only [List.map_cons, List.mem_cons, not_or] at hk
      rw [others k hk.2, start, if_neg hk.1]
    · obtain ⟨fresh, hn⟩ := List.nodup_cons.mp hn
      cases j with
      | zero => cases hy; rw [others r fresh, start, if_pos rfl]
      | succ j => rw [written hn j y (by simpa using hy), show n + 1 + j + 1 = n + (j + 1) + 1 by omega]

/-- A record written and handed over keeps the law of the notices, in use before or not (R11, R157). -/
theorem State.changeRecord_pendingLaw (h : s.PendingLaw) (r : RecordRef) (c : Compartment) :
    (s.changeRecord r c).PendingLaw := by
  refine (State.notify_keepsYard (H := True) (by simp)).notices ?_
  intro hp j
  obtain ⟨lines, refs⟩ := h hp j
  refine ⟨lines, fun k hk => ?_⟩
  rw [State.setRecord_pool, table_set]
  split
  · rfl
  · exact refs k hk

/-- A record that fits, written and handed over, keeps the law of the records. -/
theorem State.changeRecord_recordLaw (h : s.RecordLaw) (r : RecordRef) {c : Compartment} (hc : s.RecordFits c) :
    (s.changeRecord r c).RecordLaw := by
  obtain ⟨v, hv⟩ := s.changeRecord_frame r c
  rw [State.recordLaw_iff] at h ⊢
  rw [hv]
  intro hm k x hx
  change (s.ret.pool.set r (some c))[k] = some x at hx
  rw [table_set] at hx
  split at hx
  · cases hx; exact hc.of_tables rfl rfl
  · exact (h hm k x hx).of_tables rfl rfl

/-- New records keep the law of the notices (R10). -/
theorem State.admitRecords_pendingLaw (h : s.PendingLaw) (n : Nat) (xs : List (RecordRef × Nat × List ClassNo)) :
    (s.admitRecords n xs).PendingLaw := by
  induction xs generalizing s n with
  | nil => exact h
  | cons x xs ih => exact ih (State.changeRecord_pendingLaw h _ _) (n + 1)

/-- New records in range, of defined classes, keep the law of the records (R10). -/
theorem State.admitRecords_recordLaw (h : s.RecordLaw) (n : Nat) (xs : List (RecordRef × Nat × List ClassNo))
    (hx : ∀ x ∈ xs, 500 ≤ x.2.1 ∧ x.2.1 ≤ 30000 ∧ x.2.2.length ≤ 3
      ∧ ∀ k ∈ x.2.2, (s.ret.classes[k]).isSome = true) : (s.admitRecords n xs).RecordLaw := by
  induction xs generalizing s n with
  | nil => exact h
  | cons x xs ih =>
    obtain ⟨low, high, length, defined⟩ := hx x (by simp)
    obtain ⟨v, hv⟩ := s.changeRecord_frame x.1 (newCompartment (n + 1) x.2.1 x.2.2)
    refine ih (State.changeRecord_recordLaw h _ (s.recordFits_newCompartment _ _ _ low high length defined)) (n + 1)
      (fun y hy => ?_)
    rw [hv]
    exact hx y (by simp [hy])

/-- What makes a tanker one that the yard can take in (R9, R10): a free slot, a token of its own, 1 to 8 compartments,
and as many free records. -/
structure State.Admissible (s : State) (i : Slot) (token : List Byte) (cs : List (Nat × List ClassNo)) : Prop where
  slot : s.ret.tankers[i] = none
  fits : TokenFits token
  own : ∀ j : Slot, ∀ x ∈ s.ret.tankers[j], x.token ≠ token
  one : 1 ≤ cs.length
  eight : cs.length ≤ 8
  room : cs.length ≤ s.ret.freeList.length

/-- A tanker taken in keeps the law of the yard table (R1, R2, R3, R10). -/
theorem State.admitTanker_yardTableLaw (h : s.YardTableLaw) {i : Slot} {token : List Byte}
    {cs : List (Nat × List ClassNo)} (ha : s.Admissible i token cs) : (s.admitTanker i token cs).YardTableLaw := by
  obtain ⟨slot, fits, own', one, eight, room⟩ := ha
  unfold State.admitTanker
  simp only
  set refs := s.ret.freeList.take cs.length with hrefs
  have length : refs.length = cs.length := by simp [hrefs, room]
  have firsts : (refs.zip cs).map Prod.fst = refs := List.map_fst_zip (by omega)
  obtain ⟨pool, notices, e, others, written⟩ := State.admitRecords_frame
    { s with ret := { s.ret with
      tankers := s.ret.tankers.set i (some ⟨token, s.ret.clock, refs, none⟩)
      freeList := s.ret.freeList.drop cs.length } } 0 (refs.zip cs)
  rw [firsts] at others written
  rw [e]
  intro hm
  obtain ⟨nodup, free, listed, own, apart, bound, binds⟩ := h hm
  have parts : refs.Nodup ∧ (s.ret.freeList.drop cs.length).Nodup ∧ ∀ k ∈ refs, k ∉ s.ret.freeList.drop cs.length := by
    rw [← List.take_append_drop cs.length s.ret.freeList, List.nodup_append] at nodup
    obtain ⟨left, right, disjoint⟩ := nodup
    exact ⟨left, right, fun k hk hk' => disjoint k hk k hk' rfl⟩
  obtain ⟨nodupRefs, nodupRest, disjoint⟩ := parts
  have written (j : Nat) (k : RecordRef) (hk : refs[j]? = some k) : ∃ c, pool[k] = some c ∧ c.number = j + 1 := by
    obtain ⟨hj, rfl⟩ := List.getElem?_eq_some_iff.mp hk
    have hz : (refs.zip cs)[j]? = some (refs[j], cs[j]) := by
      rw [List.getElem?_eq_getElem (by simp; omega)]
      simp
    exact ⟨_, written nodupRefs j _ hz, by simp [newCompartment]⟩
  have used (k : RecordRef) (hk : k ∈ refs) : ∃ c, pool[k] = some c := by
    obtain ⟨j, hj, rfl⟩ := List.mem_iff_getElem.mp hk
    obtain ⟨c, hc, -⟩ := written j _ (List.getElem?_eq_getElem hj)
    exact ⟨c, hc⟩
  have unused (k : RecordRef) (hk : (s.ret.pool[k]).isSome = true) : k ∉ refs := fun hin => by
    have := (free k).mpr (List.mem_of_mem_take hin)
    rw [Option.isNone_iff_eq_none.mp this] at hk
    cases hk
  have tanker (j : Slot) : (s.ret.tankers.set i (some ⟨token, s.ret.clock, refs, none⟩))[j]
      = if j = i then some ⟨token, s.ret.clock, refs, none⟩ else s.ret.tankers[j] := table_set _ _ _ _
  have old {j : Slot} {x : Tanker} (hx : x ∈ s.ret.tankers[j]) : j ≠ i := by
    rintro rfl
    cases slot.symm.trans hx
  have stays {j : Slot} {x : Tanker} (hx : x ∈ s.ret.tankers[j]) :
      x ∈ (s.ret.tankers.set i (some ⟨token, s.ret.clock, refs, none⟩))[j] := by
    rw [tanker, if_neg (old hx)]
    exact hx
  refine ⟨nodupRest, ?_, ?_, ?_, ?_, ?_, ?_⟩
  · intro k
    change (pool[k]).isNone = true ↔ k ∈ s.ret.freeList.drop cs.length
    by_cases hk : k ∈ refs
    · obtain ⟨c, hc⟩ := used k hk
      simp [hc, disjoint k hk]
    · rw [others k hk]
      refine (free k).trans ⟨fun hin => ?_, List.mem_of_mem_drop⟩
      rw [← List.take_append_drop cs.length s.ret.freeList] at hin
      exact (List.mem_append.mp hin).resolve_left hk
  · intro k hk
    change (pool[k]).isSome = true at hk
    by_cases hin : k ∈ refs
    · exact ⟨i, ⟨token, s.ret.clock, refs, none⟩, by rw [tanker, if_pos rfl]; rfl, hin⟩
    · rw [others k hin] at hk
      obtain ⟨j, x, hx, hin⟩ := listed k hk
      exact ⟨j, x, stays hx, hin⟩
  · intro j x hx
    rw [tanker] at hx
    split at hx
    · cases hx
      refine ⟨fits, by simp only; omega, by simp only; omega, nodupRefs, fun n k hk => ?_⟩
      obtain ⟨c, hc, hn⟩ := written n.val k hk
      exact ⟨c, hc, hn⟩
    · exact (own j x hx).of_pool (fun k hk => others k (unused k ((own j x hx).inUse hk)))
  · intro j j' hne x hx y hy
    rw [tanker] at hx hy
    split at hx <;> split at hy
    next e e' => exact absurd (e.trans e'.symm) hne
    · cases hx
      exact ⟨(own' j' y hy).symm, fun k hk hk' => unused k ((own j' y hy).inUse hk') hk⟩
    · cases hy
      exact ⟨own' j x hx, fun k hk => unused k ((own j x hx).inUse hk)⟩
    · exact apart j j' hne x hx y hy
  · intro q j hj
    obtain ⟨x, hx, p, hp, hq⟩ := bound q j hj
    exact ⟨x, stays hx, p, hp, hq⟩
  · intro j x hx p hp
    rw [tanker] at hx
    split at hx
    · cases hx
      cases hp
    · exact binds j x hx p hp

/-- The slot found for a token holds it; none is found when no tanker has it (R1). -/
theorem State.slotWithToken_eq_none {token : List Byte} :
    s.slotWithToken token = none ↔ ∀ j : Slot, ∀ x ∈ s.ret.tankers[j], x.token ≠ token := by
  unfold State.slotWithToken
  rw [List.find?_eq_none]
  refine ⟨fun h j x hx => ?_, fun h j _ => ?_⟩
  · have := h j (List.mem_finRange j)
    rw [show s.ret.tankers[j] = some x from hx] at this
    simpa using this
  · split
    next x hx => simpa using h j x hx
    · simp

/-- A free slot found is free (R10). -/
theorem State.of_freeSlot {i : Slot} (h : s.freeSlot = some i) : s.ret.tankers[i] = none := by
  have := List.find?_some h
  simpa using this

/-- ADMIT (R9, R10). -/
theorem ownAdmit_keepsYard (p : Port) (body : List Byte) : s.KeepsYard H (ownAdmit p body s).1 := by
  unfold ownAdmit
  split
  · exact .refl s
  next n rest _ =>
    split
    · exact .refl s
    next sent hsent =>
      split
      · exact .refl s
      next hn =>
        split
        next cs token hcs htoken =>
          split
          · exact .refl s
          next hclass =>
            split
            · exact .refl s
            next hdup =>
            split
            · exact .refl s
            next i hi =>
              split
              · exact .refl s
              next hroom =>
                obtain ⟨hlen, ranges⟩ := of_admittedCompartments hcs
                have hlen : cs.length = n.toNat := hlen.trans (length_of_sentCompartments hsent)
                have ha : s.Admissible i token cs := by
                  refine ⟨State.of_freeSlot hi, tokenFits_of_tokenOf htoken (by simp), ?_, ?_, ?_, ?_⟩
                  · exact State.slotWithToken_eq_none.mp (by simpa using hdup)
                  all_goals omega
                refine ⟨fun h => ?_, fun h => State.admitTanker_yardTableLaw h ha, fun _ h => ?_⟩
                · exact State.admitRecords_pendingLaw (s := { s with ret := { s.ret with
                    tankers := s.ret.tankers.set i (some ⟨token, s.ret.clock, s.ret.freeList.take cs.length, none⟩)
                    freeList := s.ret.freeList.drop cs.length } }) h 0 _
                · refine State.admitRecords_recordLaw (s := { s with ret := { s.ret with
                    tankers := s.ret.tankers.set i (some ⟨token, s.ret.clock, s.ret.freeList.take cs.length, none⟩)
                    freeList := s.ret.freeList.drop cs.length } }) h 0 _ (fun x hx => ?_)
                  have hin : x.2 ∈ cs := (List.of_mem_zip hx).2
                  obtain ⟨low, high, length⟩ := ranges x.2 hin
                  refine ⟨low, high, length, fun k hk => ?_⟩
                  by_contra hnone
                  exact hclass (List.any_eq_true.mpr ⟨x.2, hin, List.any_eq_true.mpr ⟨k, hk, by simpa using hnone⟩⟩)
        · exact .refl s

end Sys2Proof.Machine
end

section
namespace Sys2Proof.Machine

variable {H : Prop} {s t u : State}

/-! ## The starts and the losses -/

/-- A port's notices after a start: the office's hold the records changed, and no other anything (R157, R170). -/
theorem Active.start_notices (r : Retained) (changed : RefSet) (j : Fin 6) :
    (Active.start r changed).notices[j] = if j = 5 then Notice.settled (noneOf 16) changed else Notice.start := by
  have := table_set (Vector.replicate 6 Notice.start) 5 j (Notice.settled (noneOf 16) changed)
  simpa [Active.start] using this

/-- A start keeps the law of the notices when the records it marks are in use (R157, R170). -/
theorem State.start_pendingLaw {changed : RefSet} (r : Retained) (h : s.act = Active.start r changed)
    (hc : ∀ k : RecordRef, changed[k] = true → (s.ret.pool[k]).isSome = true) : s.PendingLaw := by
  intro _ j
  rw [h, Active.start_notices]
  split
  · exact ⟨fun l hl => by simp [Notice.settled, noneOf] at hl, hc⟩
  · exact ⟨fun l hl => by simp [Notice.start, noneOf] at hl, fun k hk => by simp [Notice.start, noneOf] at hk⟩

/-- A retained domain just written by a cold start keeps the law of the yard table: every record is free (R19, R169). -/
theorem State.coldStart_yardTableLaw (h : s.ret = Retained.coldStart) : s.YardTableLaw := by
  have tankers (i : Slot) : s.ret.tankers[i] = none := by simp [h, Retained.coldStart]
  have bindings (q : Fin 5) : s.ret.bindings[q] = none := by simp [h, Retained.coldStart]
  have pool (k : RecordRef) : s.ret.pool[k] = none := by simp [h, Retained.coldStart]
  have freeList : s.ret.freeList = List.finRange 64 := by rw [h]; rfl
  intro _
  refine ⟨freeList ▸ List.nodup_finRange 64, fun k => by simp [pool, freeList], fun k hk => ?_, fun i x hx => ?_,
    fun i _ _ x hx => ?_, fun q i hi => ?_, fun i x hx => ?_⟩
  · rw [pool] at hk; cases hk
  · rw [tankers] at hx; cases hx
  · rw [tankers] at hx; cases hx
  · rw [bindings] at hi; cases hi
  · rw [tankers] at hx; cases hx

/-- And it keeps the law of the records, none being in use (R19, R169). -/
theorem State.coldStart_recordLaw (h : s.ret = Retained.coldStart) : s.RecordLaw := by
  rw [State.recordLaw_iff]
  intro _ k c hc
  simp [h, Retained.coldStart] at hc

/-- The cold start (R169). -/
theorem State.coldStart_keepsYard (s : State) : s.KeepsYard H s.coldStart :=
  ⟨fun _ => State.start_pendingLaw Retained.coldStart rfl (fun k hk => by simp [noneOf] at hk),
    fun _ => State.coldStart_yardTableLaw rfl, fun _ _ => State.coldStart_recordLaw rfl⟩

/-- The step of R170. -/
theorem State.recover_keepsYard (s : State) : s.KeepsYard H s.recover := by
  have pool (k : RecordRef) : s.recover.ret.pool[k] = (s.ret.pool[k]).map Compartment.mapped := by
    simp [State.recover, Retained.mapped, mapTable_eq_map]
  have tankers (i : Slot) : s.recover.ret.tankers[i]
      = (s.ret.tankers[i]).map (fun x => { x with binding := none }) := by
    simp [State.recover, Retained.mapped, mapTable_eq_map]
  have bindings (q : Fin 5) : s.recover.ret.bindings[q] = none := by simp [State.recover, Retained.mapped]
  refine ⟨fun _ => State.start_pendingLaw s.ret.mapped rfl (fun k hk => ?_),
    fun h => h.of_lists rfl rfl (fun k => ?_) (fun i => ?_) (fun _ q i hi => ?_) (fun _ i x hx p hp => ?_), fun _ h => ?_⟩
  · rw [pool]
    cases hc : s.ret.pool[k] with
    | none => simp_all [Retained.mappedRefs, mapTable_eq_map]
    | some c => rfl
  · rw [pool]; cases s.ret.pool[k] <;> simp
  · rw [tankers]; cases s.ret.tankers[i] <;> rfl
  · rw [bindings] at hi; cases hi
  · rw [tankers] at hx
    obtain ⟨y, -, rfl⟩ := Option.map_eq_some_iff.mp hx
    cases hp
  · rw [State.recordLaw_iff] at h ⊢
    intro hm k c hc
    rw [pool] at hc
    obtain ⟨old, hold, rfl⟩ := Option.map_eq_some_iff.mp hc
    exact (h hm k old hold).mapped.of_tables rfl rfl

/-- Main power goes (R168): the retained domain stands. -/
theorem State.losePower_keepsYard (s : State) : s.KeepsYard H s.losePower := by
  unfold State.losePower
  split
  · exact ⟨fun _ hp => absurd hp (by simp), id, fun _ => id⟩
  · exact .refl s

/-- The backup supply goes while main power is off (R169): the marker is no longer valid. -/
theorem State.loseBackup_keepsYard (s : State) : s.KeepsYard H s.loseBackup := by
  unfold State.loseBackup
  split
  · exact .refl s
  next h => exact ⟨fun _ hp => absurd hp h, fun _ hm => absurd hm (by simp), fun _ _ hm => absurd hm (by simp)⟩

/-! ## Requests keep the laws -/

section

variable (p : Port) (body : List Byte)

theorem ownStartWash_keepsYard : s.KeepsYard H (ownStartWash p body s).1 := by
  unfold ownStartWash
  split
  · split
    · exact .refl s
    next hx => exact startWashOn_keepsYard _ (State.record_of_nameBound hx)
  · exact .refl s

theorem ownPhaseGo_keepsYard : s.KeepsYard H (ownPhaseGo p body s).1 := by
  unfold ownPhaseGo
  split
  · split
    · exact .refl s
    next hx => exact phaseGoOn_keepsYard (State.record_of_nameBound hx)
  · exact .refl s

theorem ownAbortWash_keepsYard : s.KeepsYard H (ownAbortWash p body s).1 := by
  unfold ownAbortWash
  split
  · split
    · exact .refl s
    next hx =>
      split
      next hw => exact State.stopWash_keepsYard (State.record_of_nameBound hx) hw _
      · exact .refl s
  · exact .refl s

theorem ownCancelWash_keepsYard : s.KeepsYard H (ownCancelWash p body s).1 := by
  unfold ownCancelWash
  split
  · split
    · exact .refl s
    next hx =>
      split
      next hw => exact State.stopWash_keepsYard (State.record_of_nameAtSlot hx) hw _
      · exact .refl s
  · exact .refl s

theorem ownSetIntent_keepsYard : s.KeepsYard H (ownSetIntent p body s).1 := by
  unfold ownSetIntent
  split
  · split
    · exact .refl s
    next hx => exact setIntentOn_keepsYard (State.record_of_nameAtSlot hx) _
  · exact .refl s

theorem ownInspectPass_keepsYard : s.KeepsYard H (ownInspectPass p body s).1 := by
  unfold ownInspectPass
  split
  · split
    · exact .refl s
    next hx => exact inspectPassOn_keepsYard (State.record_of_nameBound hx) _
  · exact .refl s

theorem ownInspectFail_keepsYard : s.KeepsYard H (ownInspectFail p body s).1 := by
  unfold ownInspectFail
  split
  · split
    · exact .refl s
    next hx => exact inspectFailOn_keepsYard (State.record_of_nameBound hx) _
  · exact .refl s

theorem ownVoidRelease_keepsYard : s.KeepsYard H (ownVoidRelease p body s).1 := by
  unfold ownVoidRelease
  split
  · split
    · exact .refl s
    next hx =>
      split
      · exact .refl s
      next hq =>
        exact State.changeRecord_keepsYard (State.record_of_nameAtSlot hx) rfl
          (fun _ h => h.voided (by simpa using hq))
  · exact .refl s

theorem ownFillStart_keepsYard : s.KeepsYard H (ownFillStart p body s).1 := by
  unfold ownFillStart
  split
  · split
    · exact .refl s
    next hx => exact fillStartOn_keepsYard (State.record_of_nameBound hx) _ _
  · exact .refl s

theorem ownFillEnd_keepsYard : s.KeepsYard H (ownFillEnd p body s).1 := by
  unfold ownFillEnd
  split
  · split
    · exact .refl s
    next hx => exact fillEndOn_keepsYard (State.record_of_nameBound hx) _
  · exact .refl s

theorem ownFillAbort_keepsYard : s.KeepsYard H (ownFillAbort p body s).1 := by
  unfold ownFillAbort
  split
  · split
    · exact .refl s
    next hx => exact fillAbortOn_keepsYard (State.record_of_nameBound hx)
  · exact .refl s

theorem ownEmptied_keepsYard : s.KeepsYard H (ownEmptied p body s).1 := by
  unfold ownEmptied
  split
  · split
    · exact .refl s
    next hx =>
      split
      · exact .refl s
      next hq =>
        exact State.changeRecord_keepsYard (State.record_of_nameAtSlot hx) rfl
          (fun _ h => h.emptied (by simpa using hq))
  · exact .refl s

theorem ownSetClock_keepsYard : s.KeepsYard H (ownSetClock p body s).1 := by
  unfold ownSetClock
  split
  · exact s.setClockTo_keepsYard _
  · exact .refl s

theorem ownResume_keepsYard : s.KeepsYard H (ownResume p body s).1 := by
  unfold ownResume
  split
  · exact resumeAt_keepsYard _ s
  · split
    · exact .refl s
    · exact resumeAt_keepsYard _ s
  · exact .refl s

theorem ownWriteRoute_keepsYard : s.KeepsYard H (ownWriteRoute p body s).1 := by
  unfold ownWriteRoute
  split
  · split
    · split
      · exact .refl s
      · exact s.reroute_keepsYard _ _
    · exact .refl s
  · exact .refl s

theorem ownWriteSetting_keepsYard : s.KeepsYard H (ownWriteSetting p body s).1 := by
  unfold ownWriteSetting
  split
  · split
    · exact .refl s
    · exact s.storeSetting_keepsYard _ _
  · exact .refl s

theorem ownOpenYard_keepsYard : s.KeepsYard H (ownOpenYard p body s).1 := by
  unfold ownOpenYard
  split
  · exact .refl s
  · refine .trans ?_ (State.lapseAll_keepsYard _)
    exact .of_same rfl rfl rfl

theorem ownReadRoute_keepsYard : s.KeepsYard H (ownReadRoute p body s).1 := by
  unfold ownReadRoute
  split
  · split
    · exact .refl s
    · exact .of_same rfl rfl rfl
  · exact .refl s

/-- The kinds that only report (R17, R18, R24, R27, R31, R81, R117, R166, R176). -/
def Kind.reports : Kind → Bool
  | .status | .readTanker | .readCompartment | .readLoop | .readInstruments | .readClass | .readProgram | .readFollow
  | .readSetting => true
  | _ => false

/-- A request that only reports changes nothing. -/
theorem owner_of_reports {k : Kind} (hk : k.reports = true) : (owner k p body s).1 = s := by
  cases k <;> try cases hk
  case status | readLoop | readInstruments => rfl
  case readTanker =>
    change (ownReadTanker p body s).1 = s
    unfold ownReadTanker; split <;> try split
    all_goals rfl
  case readCompartment =>
    change (ownReadCompartment p body s).1 = s
    unfold ownReadCompartment; split <;> try split
    all_goals rfl
  case readClass =>
    change (ownReadClass p body s).1 = s
    unfold ownReadClass; split <;> try split
    all_goals rfl
  case readProgram =>
    change (ownReadProgram p body s).1 = s
    unfold ownReadProgram; split <;> try split
    all_goals rfl
  case readFollow =>
    change (ownReadFollow p body s).1 = s
    unfold ownReadFollow; split <;> try split
    all_goals rfl
  case readSetting =>
    change (ownReadSetting p body s).1 = s
    unfold ownReadSetting; split
    · split
      · rfl
      · split <;> rfl
    · rfl

/-- The owner of each kind keeps the laws. -/
theorem owner_keepsYard (k : Kind) : s.KeepsYard H (owner k p body s).1 := by
  by_cases hk : k.reports = true
  · rw [owner_of_reports p body hk]
    exact .refl s
  · cases k <;> try exact absurd rfl hk
    case events => exact ownEvents_keepsYard p body
    case ackLine => exact ownAckLine_keepsYard p body
    case resume => exact ownResume_keepsYard p body
    case admitTanker => exact ownAdmit_keepsYard p body
    case depart => exact ownDepart_keepsYard p body
    case setIntent => exact ownSetIntent_keepsYard p body
    case emptied => exact ownEmptied_keepsYard p body
    case voidRelease => exact ownVoidRelease_keepsYard p body
    case cancelWash => exact ownCancelWash_keepsYard p body
    case dock => exact ownDock_keepsYard p body
    case undock => exact ownUndock_keepsYard p body
    case startWash => exact ownStartWash_keepsYard p body
    case phaseGo => exact ownPhaseGo_keepsYard p body
    case abortWash => exact ownAbortWash_keepsYard p body
    case inspectPass => exact ownInspectPass_keepsYard p body
    case inspectFail => exact ownInspectFail_keepsYard p body
    case fillStart => exact ownFillStart_keepsYard p body
    case fillEnd => exact ownFillEnd_keepsYard p body
    case fillAbort => exact ownFillAbort_keepsYard p body
    case writeClass => exact ownWriteClass_keepsYard p body
    case writeProgram => exact ownWriteProgram_keepsYard p body
    case writeFollow => exact ownWriteFollow_keepsYard p body
    case writeRoute => exact ownWriteRoute_keepsYard p body
    case writeSetting => exact ownWriteSetting_keepsYard p body
    case readRoute => exact ownReadRoute_keepsYard p body
    case setClock => exact ownSetClock_keepsYard p body
    case openYard => exact ownOpenYard_keepsYard p body
    case yardReset => exact .of_same rfl rfl rfl

end

/-! ### Through the port -/

theorem State.setPort_keepsYard (s : State) (p : Port) (x : PortState) : s.KeepsYard H (s.setPort p x) :=
  .of_same rfl rfl rfl

/-- A request taken in one step (R163, R165). -/
theorem State.take_keepsYard (s : State) (p : Port) (f : Frame) : s.KeepsYard H (s.take p f) := by
  refine .trans ?_ (State.setPort_keepsYard _ _ _)
  unfold serve
  split
  · exact .refl s
  · split
    · exact .refl s
    · exact owner_keepsYard p f.body _

/-- A frame completing (R163). -/
theorem State.frameCompletes_keepsYard (s : State) (p : Port) (f : Frame) : s.KeepsYard H (s.frameCompletes p f) := by
  unfold State.frameCompletes
  split_ifs
  · exact s.setPort_keepsYard p _
  · exact s.setPort_keepsYard p _
  · exact s.setPort_keepsYard p _
  · exact s.take_keepsYard p f

/-- The last byte of an answer leaving (R163). -/
theorem State.answerSent_keepsYard (s : State) (p : Port) : s.KeepsYard H (s.answerSent p) := by
  unfold State.answerSent
  split
  · exact .refl s
  · split
    · exact .of_same rfl rfl rfl
    · split
      · exact s.setPort_keepsYard p _
      · split
        · exact s.setPort_keepsYard p _
        · exact (s.setPort_keepsYard p _).trans (State.take_keepsYard _ p _)

/-- A byte received (R162). -/
theorem State.receiveByte_keepsYard (s : State) (p : Port) (b : Byte) (err : Bool) :
    s.KeepsYard H (s.receiveByte p b err) := by
  have discarded : s.KeepsYard H ((s.setReceiver p .hunting).discard p) :=
    (s.setPort_keepsYard p _).trans (State.setPort_keepsYard _ p _)
  unfold State.receiveByte
  split
  · split
    · exact s.setPort_keepsYard p _
    · exact .refl s
  · split
    · exact discarded
    · split
      · exact discarded
      · exact s.setPort_keepsYard p _
      · exact (s.setPort_keepsYard p _).trans (State.frameCompletes_keepsYard _ p _)

/-- The gap inside a frame (R162). -/
theorem State.gap_keepsYard (s : State) (p : Port) : s.KeepsYard H (s.gap p) := by
  unfold State.gap
  split
  · exact .refl s
  · exact (s.setPort_keepsYard p _).trans (State.setPort_keepsYard _ p _)

/-! ## Every step keeps the laws -/

/-- The part does nothing without main power (R168). -/
theorem whenPowered_keepsYard {f : State → State} (h : s.mainPower = true → s.KeepsYard H (f s)) :
    s.KeepsYard H (whenPowered s f) := by
  unfold whenPowered
  split
  next hp => exact h hp
  · exact .refl s

/-- A command that is a request is its kind's frame at its port. -/
theorem requestOf_of_request {i : Instr} {q : Request} (h : i.request? = some q) :
    requestOf q.kind q.port q.tag q.body = i := by
  cases i <;> cases h <;> rfl

/-- Every command keeps the three laws, that of the records from a state in range. -/
theorem exec_keepsYard (i : Instr) (s : State) : ∃ t, exec i s = .next t ∧ s.KeepsYard s.RangeLaw t := by
  cases h : i.request? with
  | some q =>
    rw [← requestOf_of_request h]
    exact ⟨_, exec_requestOf _ _ _ _ s, whenPowered_keepsYard (fun _ => s.frameCompletes_keepsYard _ _)⟩
  | none =>
    have ranges (hp : s.mainPower = true) (hr : s.RangeLaw) : s.WashRanges := s.washRanges hr hp
    cases i with
    | yardResetEffect =>
      refine ⟨_, rfl, whenPowered_keepsYard (fun _ => ?_)⟩
      split
      · exact .refl s
      · exact s.recover_keepsYard
    | coldStart =>
      refine ⟨_, rfl, ?_⟩
      split
      · exact s.coldStart_keepsYard
      · exact .refl s
    | powerReturn =>
      refine ⟨_, rfl, ?_⟩
      split
      · exact s.recover_keepsYard
      · exact .refl s
    | mainPowerLoss => exact ⟨_, rfl, s.losePower_keepsYard⟩
    | requestByteReceived p b err => exact ⟨_, rfl, whenPowered_keepsYard (fun _ => s.receiveByte_keepsYard p b err)⟩
    | interByteTimeout p => exact ⟨_, rfl, whenPowered_keepsYard (fun _ => s.gap_keepsYard p)⟩
    | answerSendComplete p => exact ⟨_, rfl, whenPowered_keepsYard (fun _ => s.answerSent_keepsYard p)⟩
    | scanConversion ch code =>
      exact ⟨_, rfl, whenPowered_keepsYard (fun hp => State.convert_keepsYard ch code (ranges hp))⟩
    | pulseSample m level => exact ⟨_, rfl, whenPowered_keepsYard (fun _ => s.samplePulse_keepsYard m level)⟩
    | lineSample l level => exact ⟨_, rfl, whenPowered_keepsYard (fun _ => s.sampleLine_keepsYard l level)⟩
    | grant => exact ⟨_, rfl, whenPowered_keepsYard (fun _ => s.grantStep_keepsYard)⟩
    | accountingIntervalClose b =>
      exact ⟨_, rfl, whenPowered_keepsYard (fun hp => State.closeInterval_keepsYard b (ranges hp))⟩
    | phaseTimerTick b => exact ⟨_, rfl, whenPowered_keepsYard (fun hp => State.phaseTick_keepsYard b (ranges hp))⟩
    | phaseTimerExpiry b => exact ⟨_, rfl, whenPowered_keepsYard (fun _ => State.phaseExpiry_keepsYard b)⟩
    | handoverTimerExpiry b => exact ⟨_, rfl, whenPowered_keepsYard (fun _ => State.expire_keepsYard b _ _ rfl _)⟩
    | reEntryTimerExpiry b => exact ⟨_, rfl, whenPowered_keepsYard (fun _ => State.expire_keepsYard b _ _ rfl _)⟩
    | holdTimerExpiry b => exact ⟨_, rfl, whenPowered_keepsYard (fun _ => State.expire_keepsYard b _ _ rfl _)⟩
    | washHold b => exact ⟨_, rfl, whenPowered_keepsYard (fun _ => State.holdStep_keepsYard b)⟩
    | washResume b => exact ⟨_, rfl, whenPowered_keepsYard (fun _ => State.resumeStep_keepsYard b)⟩
    | fillStoppedMark => exact ⟨_, rfl, whenPowered_keepsYard (fun _ => s.stoppedStep_keepsYard)⟩
    | sweepTick b => exact ⟨_, rfl, whenPowered_keepsYard (fun _ => s.sweepStep_keepsYard b)⟩
    | releaseTimerCheck => exact ⟨_, rfl, whenPowered_keepsYard (fun _ => s.timerCheck_keepsYard)⟩
    | releaseLapse r => exact ⟨_, rfl, whenPowered_keepsYard (fun _ => s.lapseStep_keepsYard r)⟩
    | yardClockSecond => exact ⟨_, rfl, s.clockSecond_keepsYard⟩
    | backupSupplyLoss => exact ⟨_, rfl, s.loseBackup_keepsYard⟩
    | ageMillisecond => exact ⟨_, rfl, whenPowered_keepsYard (fun _ => .of_same rfl rfl rfl)⟩
    | _ => cases h

/-- Every step keeps the three laws, that of the records from a state in range. -/
theorem step_keepsYard (h : step s = .next t) : s.KeepsYard s.RangeLaw t := by
  unfold step at h
  split at h
  · cases h
    exact .refl s
  next i rest _ =>
    obtain ⟨u, hu, keeps⟩ := exec_keepsYard i { s with pending := rest }
    cases hu.symm.trans h
    exact .trans (.of_same rfl rfl rfl) ⟨keeps.notices, keeps.table, keeps.records⟩

/-- Settles O11: read off what every step keeps. -/
theorem stepKeepsPendingLaw : Obligations.StepKeepsPendingLaw :=
  fun _ _ law h => (step_keepsYard h).notices law

/-- Settles O15: read off what every step keeps. -/
theorem stepKeepsYardTableLaw : Obligations.StepKeepsYardTableLaw :=
  fun _ _ law h => (step_keepsYard h).table law

/-- Settles O16: read off what every step keeps, from a state in range. -/
theorem stepKeepsRecordLaw : Obligations.StepKeepsRecordLaw :=
  fun _ _ ranges law h => (step_keepsYard h).records ranges law

end Sys2Proof.Machine
end

section
/-! # The notice store's hand-over, the starts, and the laws after reset -/

namespace Sys2Proof.Machine

/-! ## The hand-over (R157) -/

/-- A port's notices after a reference joins a port's changed set (R157). -/
theorem State.notice_markChanged (s : State) (p q : Port) (r : RecordRef) :
    (s.markChanged p r).notice q
      = if q = p then Notice.settled (s.notice p).pendingLines ((s.notice p).changed.set r true) else s.notice q :=
  State.notice_setNotice _ _ _ _ _

/-- A reference is handed over to port 6 and to the port of the position its tanker is bound to (R157). -/
theorem State.notice_notify (s : State) (r : RecordRef) (p : Port) :
    (s.notify r).notice p
      = if p = .office ∨ ∃ pos ∈ s.ownerBinding r, pos.port = p then
          Notice.settled (s.notice p).pendingLines ((s.notice p).changed.set r true)
        else s.notice p := by
  unfold State.notify
  split
  next pos hpos =>
    have office : pos.port ≠ .office := by cases pos <;> simp [Position.port]
    have handed : (p = .office ∨ ∃ pos ∈ s.ownerBinding r, pos.port = p) ↔ p = .office ∨ p = pos.port := by
      simp [hpos, eq_comm]
    simp only [handed, State.notice_markChanged]
    by_cases hp : p = pos.port
    · subst hp; simp [office]
    · by_cases ho : p = .office <;> simp [hp, ho, office.symm]
  next hnone =>
    simp only [hnone, State.notice_markChanged]
    by_cases hp : p = .office <;> simp [hp]

/-- A port's notices with a member in its changed set have their attention line asserted (R161). -/
theorem Notice.attention_settled (lines : LineSet) (changed : RefSet) (r : RecordRef) :
    (Notice.settled lines (changed.set r true)).attention = true := by
  have : anyOf (changed.set r true) = true := (anyOf_iff _).mpr ⟨r, by simp⟩
  simp [Notice.settled, this]

/-- Settles O20: each port's notices after the hand-over are `State.notice_notify`'s. -/
theorem noticeHandOver : Obligations.NoticeHandOver := by
  intro s r p
  obtain ⟨v, frame⟩ := s.notify_frame r
  refine ⟨by rw [frame], by rw [frame], ?_, fun h => ?_, fun h => ?_⟩ <;> rw [State.notice_notify]
  · split <;> rfl
  · rw [if_pos h]
    exact ⟨rfl, Notice.attention_settled _ _ r⟩
  · rw [if_neg h]

/-! ## The starts (R169, R170) -/

/-- The inactive level of a polarity (R147). -/
theorem Polarity.inactiveLevel_eq (p : Polarity) : p.inactiveLevel = if p = .activeLow then .high else .low := by
  cases p <;> rfl

/-- A set's flag for having a member, as the proposition. -/
theorem anyOf_eq_decide {n : Nat} (v : Vector Bool n) : anyOf v = decide (∃ i : Fin n, v[i] = true) := by
  rw [Bool.eq_iff_iff, anyOf_iff, decide_eq_true_iff]

/-- The active domain a start leaves, from the retained settings and routes and the records changed. -/
theorem Active.start_eq (r : Retained) (changed : RefSet) :
    Active.start r changed = startedActive r.settings[0] (Vector.ofFn (fun b => ⟨0, r.parkValue b, none⟩))
      (r.routes.map (fun e => ⟨if e.polarity = .activeLow then .high else .low, 0⟩))
      ⟨Vector.replicate 16 false, changed, decide (∃ k : RecordRef, changed[k] = true)⟩ := by
  have outputs : #v[BayOutputs.parked (r.parkValue 0), BayOutputs.parked (r.parkValue 1),
      BayOutputs.parked (r.parkValue 2), BayOutputs.parked (r.parkValue 3)]
        = Vector.ofFn (fun b : Bay => (⟨0, r.parkValue b, none⟩ : BayOutputs)) := rfl
  have lines : mapTable (fun e : Route => (⟨e.polarity.inactiveLevel, 0⟩ : Filter)) r.routes
      = r.routes.map (fun e => ⟨if e.polarity = .activeLow then .high else .low, 0⟩) := by
    rw [mapTable_eq_map]
    exact congrArg (r.routes.map ·) (funext fun e => by rw [Polarity.inactiveLevel_eq])
  have office : Notice.settled (noneOf 16) changed
      = ⟨Vector.replicate 16 false, changed, decide (∃ k : RecordRef, changed[k] = true)⟩ := by
    rw [Notice.settled, anyOf_eq_decide, anyOf_eq_decide]
    simp [noneOf]
  unfold Active.start startedActive
  rw [outputs, lines, office]
  rfl

/-- The step of R170, as a whole next state (R20, R170). -/
theorem State.recover_eq (s : State) : s.recover = s.restarted := by
  have mapped : s.ret.mapped = { s.ret with
      pool := s.ret.pool.map (fun o => o.map Compartment.afterRestart)
      tankers := s.ret.tankers.map (fun o => o.map (fun t => { t with binding := none }))
      bindings := Vector.replicate 5 none } := by
    rw [Retained.mapped, mapTable_eq_map, mapTable_eq_map, funext Compartment.mapped_eq]
  have changed : s.ret.mappedRefs = Vector.ofFn (fun r => match s.ret.pool[r] with
      | some c => decide (c.afterRestart.state ≠ c.state)
      | none => false) := by
    refine table_ofFn _ _ (fun r => ?_)
    rw [Retained.mappedRefs, mapTable_eq_map]
    simp only [Fin.getElem_fin, Vector.getElem_map]
    cases s.ret.pool[r.val] with
    | none => rfl
    | some c => simp [Compartment.mapChanges, Compartment.mapped_eq, bne, beq_eq_decide]
  rw [State.recover, State.restarted, changed, Active.start_eq, mapped]
  rfl

/-- A cold start's active domain (R82, R106, R110, R116, R151, R157, R167). -/
theorem Active.start_coldStart :
    Active.start Retained.coldStart (noneOf 64) = startedActive 8 (Vector.replicate 4 ⟨0, 0, none⟩)
      (Vector.replicate 16 ⟨.high, 0⟩) ⟨Vector.replicate 16 false, Vector.replicate 64 false, false⟩ := by
  have none : decide (∃ k : RecordRef, (noneOf 64)[k] = true) = false := by simp [noneOf]
  have outputs : Vector.ofFn (fun b : Bay => (⟨0, Retained.coldStart.parkValue b, Option.none⟩ : BayOutputs))
      = Vector.replicate 4 ⟨0, 0, Option.none⟩ := by decide
  have lines : Retained.coldStart.routes.map
      (fun e => (⟨if e.polarity = .activeLow then .high else .low, 0⟩ : Filter)) = Vector.replicate 16 ⟨.high, 0⟩ := by
    rw [← mapTable_eq_map]
    decide
  rw [Active.start_eq, none, outputs, lines]
  rfl

/-- Settles O58: each start by its premise, its active domain by `Active.start_eq`. -/
theorem theThreeStarts : Obligations.TheThreeStarts := by
  intro s
  refine ⟨fun hp hm => ?_, fun h => ?_, fun hp hm => ?_, fun h => ?_, fun hp hr => ?_, fun hr => ?_⟩
  · simp only [exec, execColdStart, hp, hm, and_self, if_true, State.coldStart, Active.start_coldStart]
    rfl
  · have : ¬ (s.mainPower = false ∧ s.ret.markerValid = false) := by rcases h with h | h <;> simp [h]
    simp only [exec, execColdStart, if_neg this]
  · simp only [exec, execPowerReturn, hp, hm, and_self, if_true, State.recover_eq]
  · have : ¬ (s.mainPower = false ∧ s.ret.markerValid = true) := by rcases h with h | h <;> simp [h]
    simp only [exec, execPowerReturn, if_neg this]
  · simp only [exec, execYardResetEffect, whenPowered, hp, if_true, if_neg hr, State.recover_eq]
  · simp only [exec, execYardResetEffect, whenPowered, hr, if_true, ite_self]

/-! ## The laws after reset -/

theorem State.reset_pool (k : RecordRef) : State.reset.ret.pool[k] = none := by
  simp [State.reset, Retained.coldStart]

theorem State.reset_units (b : Bay) : State.reset.act.units[b] = WashUnit.start := by
  simp [State.reset, Active.start]

/-- Every port's notices are empty, and its attention line released (R157). -/
theorem State.reset_attentionLaw : State.reset.AttentionLaw := by
  intro j
  have := Active.start_notices Retained.coldStart (noneOf 64) j
  rw [State.reset, this]
  split <;> rfl

/-- Every wash unit is idle and no record is in use (R19, R65). -/
theorem State.reset_washLaw : State.reset.WashLaw := by
  intro _
  have idle (b : Bay) : (State.reset.act.units[b]).active = none := by rw [State.reset_units]; rfl
  refine ⟨fun b r hr => ?_, fun r c hc => ?_, fun b _ _ r hr => ?_, fun b => ?_⟩
  · rw [idle] at hr; cases hr
  · rw [State.reset_pool] at hc; cases hc
  · rw [idle] at hr; cases hr
  · simp only [State.UnitFits, State.BayIn, State.reset_units]
    simp [WashUnit.start]

/-- Nothing is queued or granted, and no line is active (R82, R147). -/
theorem State.reset_loopLaw : State.reset.LoopLaw := by
  intro _
  have noRecord (r : RecordRef) (c : Compartment) : ¬ c ∈ State.reset.ret.pool[r] := by
    rw [State.reset_pool]; exact Option.not_mem_none c
  refine ⟨by decide, by decide, fun e he => (List.not_mem_nil he).elim, List.nodup_nil,
    fun e he => (List.not_mem_nil he).elim, fun r c hc => absurd hc (noRecord r c),
    fun r c hc => absurd hc (noRecord r c), by decide, by decide, fun r hr => absurd hr (Option.not_mem_none r)⟩

/-- Settles O2: the laws of the table, the records and the notices as after any cold start, the others read off the
values of reset. -/
theorem resetKeepsEveryLaw : Obligations.ResetKeepsEveryLaw where
  attention := State.reset_attentionLaw
  waiting := State.start_pendingLaw Retained.coldStart rfl (fun k hk => by simp [noneOf] at hk)
  supply := by decide
  ranges := ⟨fun _ => by and_intros <;> decide, fun _ => by and_intros <;> decide⟩
  outputs := by decide
  table := State.coldStart_yardTableLaw rfl
  records := State.coldStart_recordLaw rfl
  washing := State.reset_washLaw
  loop := State.reset_loopLaw
  filling := by decide
  mode := by decide

end Sys2Proof.Machine
end

section
/-! # Requests to the yard table: naming, DEPART, DOCK and UNDOCK -/

namespace Sys2Proof.Machine

variable {s : State}

/-! ## Slots and bindings by their numbers -/

/-- The tanker in a slot named by its number. -/
theorem State.tankerAt_eq_some {n : Nat} {i : Slot} {t : Tanker} (hn : n = i.val + 1) (ht : s.ret.tankers[i] = some t) :
    s.tankerAt n = some (i, t) := by
  subst hn
  have ht : s.ret.tankers[i.val] = some t := ht
  simp [State.tankerAt, ht]

/-- A number that is no slot's, or a free slot's, names no tanker. -/
theorem State.tankerAt_eq_none {n : Nat}
    (h : n = 0 ∨ 12 < n ∨ ∃ i : Slot, n = i.val + 1 ∧ s.ret.tankers[i] = none) : s.tankerAt n = none := by
  rcases h with h | h | ⟨i, rfl, hi⟩
  · simp [State.tankerAt, h]
  · have : ¬ n ≤ 12 := by omega
    simp [State.tankerAt, this]
  · have hi : s.ret.tankers[i.val] = none := hi
    simp [State.tankerAt, hi]

/-- The tanker bound to a position. -/
theorem State.boundTanker_eq_some {p : Position} {i : Slot} {t : Tanker} (hp : s.binding p = some i)
    (ht : s.ret.tankers[i] = some t) : s.boundTanker p = some (i, t) := by
  simp [State.boundTanker, hp, show s.ret.tankers[i.val] = some t from ht]

/-- A number of 0 or above the count names no compartment (R16). -/
theorem State.compartmentOf_eq_none (i : Slot) {t : Tanker} {n : Nat} (h : n = 0 ∨ t.compartments.length < n) :
    s.compartmentOf i t n = none := by
  unfold State.compartmentOf
  rcases h with h | h
  · simp [h]
  · have : t.compartments[n - 1]? = none := List.getElem?_eq_none (by omega)
    simp [this]

/-! ## Naming a compartment (R16) -/

/-- Naming through a binding: the compartment of the number, of the tanker bound (R16). -/
theorem State.nameBound_of_bound {p : Position} {i : Slot} {t : Tanker} (hp : s.binding p = some i)
    (ht : s.ret.tankers[i] = some t) (n : Nat) :
    s.nameBound p n = (s.compartmentOf i t n).elim (.error .noCompartment) .ok := by
  rw [State.nameBound, State.boundTanker_eq_some hp ht]
  simp only
  cases s.compartmentOf i t n <;> rfl

/-- Naming by slot and number: the compartment of the number, of the tanker in the slot (R16). -/
theorem State.nameAtSlot_of_slot {slot : Nat} {i : Slot} {t : Tanker} (hs : slot = i.val + 1)
    (ht : s.ret.tankers[i] = some t) (n : Nat) :
    s.nameAtSlot slot n = (s.compartmentOf i t n).elim (.error .noCompartment) .ok := by
  rw [State.nameAtSlot, State.tankerAt_eq_some hs ht]
  simp only
  cases s.compartmentOf i t n <;> rfl

/-- A kind that names a compartment through its position's binding answers what the naming is refused with (R16). -/
theorem owner_refuses_nameBound {k : Kind} {pos : Position} {n : Byte} {rest : List Byte} {e : Entry}
    {c : AnswerCode} (he : catalogue pos.port k = some e) (hb : e.needsBinding = true) (hl : e.length = rest.length + 1)
    (hn : s.nameBound pos n.toNat = .error c) : owner k pos.port (n :: rest) s = (s, refuse c) := by
  cases pos with
  | bay b =>
    cases k with
    | readTanker => cases he; cases hl
    | readCompartment | startWash | phaseGo | abortWash =>
      cases he
      obtain rfl : rest = [] := List.eq_nil_of_length_eq_zero (Nat.succ.inj hl).symm
      simp [owner, ownReadCompartment, ownStartWash, ownPhaseGo, ownAbortWash, Position.port, Port.position, hn]
    | inspectPass =>
      cases he
      obtain ⟨i1, i2, rfl⟩ := List.length_eq_two.mp (Nat.succ.inj hl).symm
      simp [owner, ownInspectPass, Position.port, hn]
    | inspectFail =>
      cases he
      obtain ⟨flag, rfl⟩ := List.length_eq_one_iff.mp (Nat.succ.inj hl).symm
      simp [owner, ownInspectFail, Position.port, hn]
    | _ => cases he <;> cases hb
  | rack =>
    cases k with
    | readTanker => cases he; cases hl
    | readCompartment | fillAbort =>
      cases he
      obtain rfl : rest = [] := List.eq_nil_of_length_eq_zero (Nat.succ.inj hl).symm
      simp [owner, ownReadCompartment, ownFillAbort, Position.port, Port.position, hn]
    | fillStart =>
      cases he
      obtain ⟨cargo, p1, p2, rfl⟩ := List.length_eq_three.mp (Nat.succ.inj hl).symm
      simp [owner, ownFillStart, Position.port, hn]
    | fillEnd =>
      cases he
      obtain ⟨v1, v2, rfl⟩ := List.length_eq_two.mp (Nat.succ.inj hl).symm
      simp [owner, ownFillEnd, Position.port, hn]
    | _ => cases he <;> cases hb

/-- The kinds with which the office names a compartment by slot and number (R16). -/
abbrev officeNames : List Kind := [.readCompartment, .emptied, .voidRelease, .cancelWash, .setIntent]

/-- Each of them answers what the naming is refused with (R16). -/
theorem owner_refuses_nameAtSlot {k : Kind} (hk : k ∈ officeNames) {slot n : Byte} {rest : List Byte} {e : Entry}
    {c : AnswerCode} (he : catalogue .office k = some e) (hl : e.length = rest.length + 2)
    (hn : s.nameAtSlot slot.toNat n.toNat = .error c) :
    owner k .office (slot :: n :: rest) s = (s, refuse c) := by
  simp only [officeNames, List.mem_cons, List.not_mem_nil, or_false] at hk
  rcases hk with rfl | rfl | rfl | rfl | rfl <;> cases he
  case inr.inr.inr.inr =>
    obtain ⟨intent, rfl⟩ := List.length_eq_one_iff.mp (Nat.succ.inj (Nat.succ.inj hl)).symm
    simp [owner, ownSetIntent, hn]
  all_goals
    obtain rfl : rest = [] := List.eq_nil_of_length_eq_zero (Nat.succ.inj (Nat.succ.inj hl)).symm
    simp [owner, ownReadCompartment, ownEmptied, ownVoidRelease, ownCancelWash, Port.position, hn]

/-- An entry's bodies are short enough for a frame. -/
theorem catalogue_length_le {p : Port} {k : Kind} {e : Entry} (he : catalogue p k = some e) : e.length ≤ 13 := by
  cases p <;> cases k <;> cases he <;> decide

/-- READ-COMPARTMENT is taken in RECOVERY (R165), as is every kind of `officeNames` but SET-INTENT. -/
theorem inRecovery_of_catalogue {p : Port} {k : Kind} {e : Entry} (he : catalogue p k = some e)
    (hk : k = .readCompartment ∨ p = .office ∧ k ≠ .setIntent) : e.inRecovery = true := by
  rcases hk with rfl | ⟨rfl, hk⟩
  · cases p <;> cases he <;> rfl
  · cases k with
    | setIntent => exact absurd rfl hk
    | _ => cases he <;> rfl

/-- Naming by a number within the count (R16). -/
theorem State.compartmentOf_eq_some {i : Slot} {t : Tanker} {n : Nat} {r : RecordRef} {c : Compartment} (h1 : 1 ≤ n)
    (hr : t.compartments[n - 1]? = some r) (hc : s.ret.pool[r] = some c) : s.compartmentOf i t n = some ⟨i, r, c⟩ :=
  State.compartmentOf_some.mpr ⟨h1, rfl, hr, hc⟩

/-- Settles O6: a kind that names a compartment answers what its naming comes to, by `State.nameBound_of_bound` and
`State.nameAtSlot_of_slot`. -/
theorem namingACompartment : Obligations.NamingACompartment := by
  intro tag n rest s
  constructor
  · rintro pos k i t ready hopen hpos ht ⟨e, he, hb, hx, hl⟩
    have he : catalogue pos.port k = some e := he
    refine ⟨fun hn => ?_, fun r c h1 hr hc => ?_⟩
    · have hname : s.nameBound pos n.toNat = .error .noCompartment := by
        rw [State.nameBound_of_bound hpos ht, State.compartmentOf_eq_none i hn]; rfl
      have hlen := catalogue_length_le he
      refine exec_owned ready k tag (n :: rest) (by simp only [List.length_cons]; omega) (commonCheck_none he ?_ ?_ ?_)
        (owner_refuses_nameBound he hb hl hname)
      · simp [Entry.lengthOk, hx, hl]
      · intro hm
        refine inRecovery_of_catalogue he (.inl (hopen.resolve_left fun ho => ?_))
        rw [ho] at hm; cases hm
      · intro _
        cases pos <;> simp [State.unboundAt, Position.port, Port.position, hpos]
    · rw [State.nameBound_of_bound hpos ht, State.compartmentOf_eq_some h1 hr hc]; rfl
  · rintro slot k hk ready hopen ⟨e, he, hx, hl⟩
    have he : catalogue .office k = some e := he
    have refused {c : AnswerCode} (hname : s.nameAtSlot slot.toNat n.toNat = .error c) :
        exec (requestOf k .office tag (slot :: n :: rest)) s = .next (s.replies .office k tag c []) := by
      have hlen := catalogue_length_le he
      refine exec_owned ready k tag (slot :: n :: rest) (by simp only [List.length_cons]; omega)
        (commonCheck_none he ?_ ?_ ?_) (owner_refuses_nameAtSlot hk he hl hname)
      · simp [Entry.lengthOk, hx, hl]
      · intro hm
        refine inRecovery_of_catalogue he (.inr ⟨rfl, hopen.resolve_left fun ho => ?_⟩)
        rw [ho] at hm; cases hm
      · intro _; rfl
    refine ⟨fun hs => refused ?_, fun i t ht hs => ⟨fun hn => refused ?_, fun r c h1 hr hc => ?_⟩⟩
    · rw [State.nameAtSlot, State.tankerAt_eq_none hs]
    · rw [State.nameAtSlot_of_slot hs ht, State.compartmentOf_eq_none i hn]; rfl
    · rw [State.nameAtSlot_of_slot hs ht, State.compartmentOf_eq_some h1 hr hc]; rfl

end Sys2Proof.Machine
end

section
namespace Sys2Proof.Machine

variable {s : State}

/-! ## DEPART (R11) -/

/-- A kind of the office that is taken in RECOVERY is given to its owner when its length passes (R165). -/
theorem exec_office {t : State} (ready : s.Ready .office) {k : Kind} {e : Entry} (he : catalogue .office k = some e)
    (hr : e.inRecovery = true) (tag : Byte) {body : List Byte} (hl : e.lengthOk body.length = true)
    (h240 : body.length ≤ 240) {r : Reply} (ho : owner k .office body s = (t, r)) :
    exec (requestOf k .office tag body) s = .next (t.replies .office k tag r.code r.body) :=
  exec_owned ready k tag body h240 (commonCheck_none he hl (fun _ => hr) (fun _ => rfl)) ho

/-- A tanker's records satisfy a test somewhere. -/
theorem State.anyOfTanker_iff (t : Tanker) (f : CState → Bool) :
    s.anyOfTanker t f = true ↔ ∃ r ∈ t.compartments, ∃ c ∈ s.ret.pool[r], f c.state = true := by
  simp only [State.anyOfTanker, List.any_eq_true]
  refine exists_congr fun r => and_congr_right fun _ => ?_
  change (match s.ret.pool[r] with | some c => f c.state | none => false) = true ↔ _
  cases s.ret.pool[r] <;> simp

/-- The states that keep a tanker on the yard (R11). -/
theorem CState.keepsTanker_iff (x : CState) :
    x.keepsTanker = true ↔ x = .queued ∨ x = .running ∨ x = .handover ∨ x = .held ∨ x = .filling := by
  cases x <;> decide

/-- Settles O23: DEPART's refusals in order, and `State.depart_eq` for one that is taken. -/
theorem departFreesTheTanker : Obligations.DepartFreesTheTanker := by
  intro tag slot s ready
  have answered {t : State} {r : Reply} (ho : ownDepart .office [slot] s = (t, r)) :
      exec (.depart .office tag [slot]) s = .next (t.replies .office .depart tag r.code r.body) :=
    exec_office (k := .depart) ready rfl rfl tag rfl (by simp) ho
  refine ⟨fun hs => answered (r := refuse .noTanker) ?_, fun i t ht hs => ?_⟩
  · simp [ownDepart, State.tankerAt_eq_none hs]
  · have found := State.tankerAt_eq_some hs ht
    refine ⟨fun hb => answered (r := refuse .busy) ?_, fun hb hin => answered (r := refuse .state) ?_,
      fun hb hout => ?_⟩
    · simp [ownDepart, found, Option.isSome_iff_ne_none.mpr hb]
    · have keeps : s.anyOfTanker t CState.keepsTanker = true := by
        obtain ⟨r, hr, c, hc, hq⟩ := hin
        exact (State.anyOfTanker_iff t _).mpr ⟨r, hr, c, hc, (CState.keepsTanker_iff _).mpr hq⟩
      simp [ownDepart, found, hb, keeps]
    · have leaves : s.anyOfTanker t CState.keepsTanker = false := by
        rw [Bool.eq_false_iff, Ne, State.anyOfTanker_iff]
        rintro ⟨r, hr, c, hc, hq⟩
        rcases hout r hr c hc with h | h | h | h <;> simp [h, CState.keepsTanker, CState.isWash] at hq
      have := answered (t := s.depart i t) (r := okay []) (by simp [ownDepart, found, hb, leaves])
      rw [this, State.depart_eq, mapTable_eq_map]
      rfl

/-! ## DOCK (R13) -/

/-- The slot found for a token holds a tanker with it. -/
theorem State.of_slotWithToken {token : List Byte} {i : Slot} (h : s.slotWithToken token = some i) :
    ∃ t, s.ret.tankers[i] = some t ∧ t.token = token := by
  have := List.find?_some h
  split at this
  next t ht => exact ⟨t, ht, by simpa using this⟩
  · cases this

/-- A token that one tanker has is found at its slot (R1). -/
theorem State.slotWithToken_eq_some {i : Slot} {t : Tanker} (ht : s.ret.tankers[i] = some t)
    (own : ∀ j : Slot, ∀ u ∈ s.ret.tankers[j], u.token = t.token → j = i) : s.slotWithToken t.token = some i := by
  cases h : s.slotWithToken t.token with
  | none => exact absurd rfl (State.slotWithToken_eq_none.mp h i t ht)
  | some j =>
    obtain ⟨u, hu, htoken⟩ := State.of_slotWithToken h
    rw [own j u hu htoken]

/-- A token's eight characters have eight characters. -/
theorem length_tokenBytes {token : List Byte} (h : token.length ≤ 8) : (tokenBytes token).length = 8 := by
  simp only [tokenBytes, List.length_append, List.length_replicate]
  omega

/-- A token is read back from its eight characters (R1, R9). -/
theorem tokenOf_tokenBytes {token : List Byte} (h : TokenFits token) : tokenOf (tokenBytes token) = some token := by
  obtain ⟨hne, eight, chars⟩ := h
  refine tokenOf_eq_some_iff.mpr ⟨hne, chars, ?_⟩
  rw [length_tokenBytes eight]
  rfl

/-- Eight characters read as a token are that token's. -/
theorem tokenBytes_of_tokenOf {bs token : List Byte} (h : tokenOf bs = some token) (hl : bs.length = 8) :
    bs = tokenBytes token := by
  obtain ⟨-, -, hbs⟩ := tokenOf_eq_some_iff.mp h
  rw [hl] at hbs
  exact hbs

/-- DOCK at a position's port that takes it, for the tanker its token finds (R13). -/
theorem ownDock_of_found {pos : Position} {i : Slot} {t : Tanker} (ht : s.ret.tankers[i] = some t)
    (fits : TokenFits t.token) (own : ∀ j : Slot, ∀ u ∈ s.ret.tankers[j], u.token = t.token → j = i) :
    ownDock pos.port (tokenBytes t.token) s = dockAt pos i t s := by
  have found : (tokenOf (tokenBytes t.token)).bind s.slotWithToken = some i := by
    rw [tokenOf_tokenBytes fits]
    exact State.slotWithToken_eq_some ht own
  have ht : s.ret.tankers[i.val] = some t := ht
  cases pos <;> simp [ownDock, Position.port, Port.position, found, ht]

/-- DOCK of a token that no tanker has (R13). -/
theorem ownDock_of_unknown {pos : Position} {token : List Byte} (hl : token.length = 8)
    (unknown : ∀ i : Slot, ∀ t ∈ s.ret.tankers[i], token ≠ tokenBytes t.token) :
    ownDock pos.port token s = (s, refuse .noTanker) := by
  have lost : (tokenOf token).bind s.slotWithToken = none := by
    rw [Option.bind_eq_none_iff]
    intro own htoken
    refine State.slotWithToken_eq_none.mpr fun j x hx e => unknown j x hx ?_
    rw [e]
    exact tokenBytes_of_tokenOf htoken hl
  cases pos <;> simp [ownDock, Position.port, Port.position, lost]

/-! ## UNDOCK (R14, R15) -/

/-- The states that refuse an UNDOCK at a position (R14, R15). -/
theorem undockRefusedBy_iff (pos : Position) (x : CState) :
    undockRefusedBy pos x = true
      ↔ if pos = .rack then x = .filling else x = .queued ∨ x = .running ∨ x = .handover ∨ x = .held := by
  cases pos <;> cases x <;> simp [undockRefusedBy, CState.isWash]

/-- UNDOCK at a position's port with a tanker bound (R14, R15). -/
theorem ownUndock_of_bound {pos : Position} {i : Slot} {t : Tanker} (hp : s.binding pos = some i)
    (ht : s.ret.tankers[i] = some t) :
    ownUndock pos.port [] s = if s.anyOfTanker t (undockRefusedBy pos) then (s, refuse .state)
      else (s.unbindTanker pos i t, okay []) := by
  have bound := State.boundTanker_eq_some hp ht
  cases pos <;> simp [ownUndock, Position.port, Port.position, bound]

/-- UNDOCK at a position's port with no tanker bound (R14, R15). -/
theorem ownUndock_of_unbound {pos : Position} (hp : s.binding pos = none) :
    ownUndock pos.port [] s = (s, refuse .unbound) := by
  cases pos <;> simp [ownUndock, Position.port, Port.position, State.boundTanker, hp]

/-- Settles O24: DOCK and UNDOCK by what their tanker is and where it is bound. -/
theorem dockAndUndock : Obligations.DockAndUndock := by
  intro pos tag s ready hopen
  have docked {token : List Byte} (hl : token.length = 8) {t : State} {r : Reply}
      (ho : ownDock pos.port token s = (t, r)) :
      exec (.dock pos.port tag token) s = .next (t.replies pos.port .dock tag r.code r.body) := by
    refine exec_owned ready .dock tag token (by omega)
      (commonCheck_isOpen (e := entryOf 8 false) hopen (by cases pos <;> rfl) ?_ (fun h => by cases h)) ho
    simp [Entry.lengthOk, entryOf, hl]
  have undocked {t : State} {r : Reply} (ho : ownUndock pos.port [] s = (t, r)) :
      exec (.undock pos.port tag []) s = .next (t.replies pos.port .undock tag r.code r.body) :=
    exec_owned ready .undock tag [] (by simp)
      (commonCheck_isOpen (e := entryOf 0 false) hopen (by cases pos <;> rfl) rfl (fun h => by cases h)) ho
  refine ⟨fun token hl unknown => docked (r := refuse .noTanker) hl (ownDock_of_unknown hl unknown), ?_,
    fun hp => undocked (r := refuse .unbound) (ownUndock_of_unbound hp), ?_⟩
  · intro i t ht fits own report
    have ⟨_, eight, _⟩ := fits
    have answered {u : State} {r : Reply} (ho : dockAt pos i t s = (u, r)) :
        exec (.dock pos.port tag (tokenBytes t.token)) s = .next (u.replies pos.port .dock tag r.code r.body) :=
      docked (length_tokenBytes eight) ((ownDock_of_found ht fits own).trans ho)
    refine ⟨fun hp => answered (r := s.dockReply i t) ?_, fun hp hb => answered (r := refuse .busy) ?_,
      fun hp hb => ⟨fun hh => answered (r := refuse .held) ?_,
        fun hh => answered (u := s.bindTanker pos i t) (r := s.dockReply i t) ?_⟩⟩
    · simp [dockAt, hp]
    · have : t.binding.isSome = true ∨ (s.binding pos).isSome = true := by
        simpa only [Option.isSome_iff_ne_none] using hb
      simp [dockAt, hp, this]
    · simp [dockAt, hp, hb, hh]
    · simp [dockAt, hp, hb, hh]
  · intro i t ht hp stays
    have answer := ownUndock_of_bound hp ht
    have refused : s.anyOfTanker t (undockRefusedBy pos) = true
        ↔ ∃ r ∈ t.compartments, ∃ c ∈ s.ret.pool[r], stays c.state := by
      simp only [State.anyOfTanker_iff, undockRefusedBy_iff]
      exact Iff.rfl
    refine ⟨fun hin => undocked (r := refuse .state) ?_,
      fun hout => undocked (t := s.unbindTanker pos i t) (r := okay []) ?_⟩
    · rw [answer, if_pos (refused.mpr hin)]
    · rw [answer, if_neg]
      rw [refused]
      rintro ⟨r, hr, c, hc, hq⟩
      exact hout r hr c hc hq

end Sys2Proof.Machine
end

section
/-! # ADMIT (R9, R10) -/

namespace Sys2Proof.Machine

variable {s : State}

/-! ## The compartments of a body -/

/-- A compartment as an ADMIT body spells it: its capacity's two bytes, the length of its history, and the history. -/
abbrev spelled (x : Byte × Byte × List Byte) : List Byte := [x.1, x.2.1] ++ byte1 x.2.2.length ++ x.2.2

/-- A compartment as it is read from those bytes. -/
def readBack (x : Byte × Byte × List Byte) : SentCompartment := ⟨number [x.1, x.2.1], x.2.2.map BitVec.toNat⟩

/-- The byte of a number below 256 is that number. -/
theorem toNat_ofNat_byte {n : Nat} (h : n < 256) : (BitVec.ofNat 8 n).toNat = n := by
  rw [BitVec.toNat_ofNat]
  omega

/-- One compartment and then the others are read from what spells it and the rest (R9). -/
theorem sentCompartments_spelled (n : Nat) {x : Byte × Byte × List Byte} (h : x.2.2.length < 256) (rest : List Byte) :
    sentCompartments (n + 1) (spelled x ++ rest) = (sentCompartments n rest).map (readBack x :: ·) := by
  simp [sentCompartments, byte1, readBack, Nat.mod_eq_of_lt h]

/-- The compartments spelled are read back, and with bytes left over none (R9). -/
theorem sentCompartments_flatMap {sent : List (Byte × Byte × List Byte)} (h : ∀ x ∈ sent, x.2.2.length < 256)
    (extra : List Byte) :
    sentCompartments sent.length (sent.flatMap spelled ++ extra)
      = if extra = [] then some (sent.map readBack) else none := by
  induction sent with
  | nil => cases extra <;> rfl
  | cons x sent ih =>
    rw [List.length_cons, List.flatMap_cons, List.append_assoc, sentCompartments_spelled _ (h x (by simp)),
      ih (fun y hy => h y (by simp [hy]))]
    split <;> rfl

/-- No compartments are read from a body that ends early (R9). -/
theorem sentCompartments_take {sent : List (Byte × Byte × List Byte)} (h : ∀ x ∈ sent, x.2.2.length < 256) {m : Nat}
    (hm : m < (sent.flatMap spelled).length) : sentCompartments sent.length ((sent.flatMap spelled).take m) = none := by
  induction sent generalizing m with
  | nil => simp at hm
  | cons x sent ih =>
    have hx := h x (by simp)
    have hlen : (spelled x).length = 3 + x.2.2.length := by simp [byte1]; omega
    rw [List.flatMap_cons, List.length_append, hlen] at hm
    rw [List.length_cons, List.flatMap_cons, List.take_append, hlen]
    by_cases full : 3 + x.2.2.length ≤ m
    · rw [List.take_of_length_le (by omega), sentCompartments_spelled _ hx,
        ih (fun y hy => h y (by simp [hy])) (by omega)]
      rfl
    · rw [show m - (3 + x.2.2.length) = 0 by omega, List.take_zero, List.append_nil]
      have early : (spelled x).take m = ([x.1, x.2.1] ++ byte1 x.2.2.length).take m ++ x.2.2.take (m - 3) := by
        rw [List.take_append]; rfl
      rw [early]
      match m with
      | 0 | 1 | 2 => rfl
      | m + 3 =>
        have short : ¬ x.2.2.length ≤ m := by omega
        simp [sentCompartments, byte1, Nat.mod_eq_of_lt hx, short]

/-- A class number's byte is in range exactly when it is a class (R9, R21). -/
theorem classOf_toNat_iff (b : Byte) (k : ClassNo) : classOf b.toNat = some k ↔ b = BitVec.ofNat 8 (k.val + 1) := by
  have hk := k.isLt
  have value : (BitVec.ofNat 8 (k.val + 1)).toNat = k.val + 1 := toNat_ofNat_byte (by omega)
  rw [← BitVec.toNat_inj, value, classOf]
  split
  · rw [Option.some.injEq, Fin.ext_iff]
    simp only
    omega
  · simp only [reduceCtorEq, false_iff]
    omega

/-- A number outside 1 to 48 is no class (R21). -/
theorem classOf_eq_none_iff (n : Nat) : classOf n = none ↔ n = 0 ∨ 48 < n := by
  unfold classOf
  split
  · simp only [reduceCtorEq, false_iff]; omega
  · simp only [true_iff]; omega

/-- What a compartment in range is read as: its capacity, and a class for each byte of its history (R9). -/
structure ReadAs (x : Byte × Byte × List Byte) (c : Nat × List ClassNo) : Prop where
  capacity : number [x.1, x.2.1] = c.1
  history : x.2.2 = c.2.map (fun k => BitVec.ofNat 8 (k.val + 1))
  length : x.2.2.length ≤ 3
  low : 500 ≤ c.1
  high : c.1 ≤ 30000

/-- A history's class numbers are read as classes exactly when the bytes are theirs. -/
theorem mapM_classOf_iff (bs : List Byte) (ks : List ClassNo) :
    (bs.map BitVec.toNat).mapM classOf = some ks ↔ bs = ks.map (fun k => BitVec.ofNat 8 (k.val + 1)) := by
  rw [mapM_eq_some_iff, List.forall₂_map_left_iff]
  simp only [classOf_toNat_iff]
  rw [← List.forall₂_map_right_iff (R := Eq), List.forall₂_eq_eq_eq]

/-- The compartments sent are in range exactly when each is read so (R9). -/
theorem admittedCompartments_iff {sent : List (Byte × Byte × List Byte)} {cs : List (Nat × List ClassNo)} :
    admittedCompartments (sent.map readBack) = some cs ↔ List.Forall₂ ReadAs sent cs := by
  have one (x : Byte × Byte × List Byte) (c : Nat × List ClassNo) :
      (readBack x).history?.map (fun h => ((readBack x).capacity, h)) = some c ↔ ReadAs x c := by
    rw [Option.map_eq_some_iff]
    simp only [SentCompartment.history?, Option.ite_none_right_eq_some]
    constructor
    · rintro ⟨ks, ⟨⟨length, low, high⟩, hks⟩, rfl⟩
      exact ⟨rfl, (mapM_classOf_iff _ _).mp hks, by simpa [readBack] using length, low, high⟩
    · rintro ⟨capacity, history, length, low, high⟩
      obtain ⟨n, ks⟩ := c
      cases capacity
      exact ⟨ks, ⟨⟨by simpa [readBack] using length, low, high⟩, (mapM_classOf_iff _ _).mpr history⟩, rfl⟩
  rw [admittedCompartments, mapM_eq_some_iff, List.forall₂_map_left_iff]
  simp only [one]

/-- A compartment as sent has a field outside its range (R9). -/
abbrev OutOfRange (x : Byte × Byte × List Byte) : Prop :=
  3 < x.2.2.length ∨ number [x.1, x.2.1] < 500 ∨ 30000 < number [x.1, x.2.1]
    ∨ ∃ k ∈ x.2.2, k.toNat = 0 ∨ 48 < k.toNat

/-- The compartments sent are not all in range exactly when one has a field that is not (R9). -/
theorem admittedCompartments_eq_none_iff {sent : List (Byte × Byte × List Byte)} :
    admittedCompartments (sent.map readBack) = none ↔ ∃ x ∈ sent, OutOfRange x := by
  have one (x : Byte × Byte × List Byte) : (readBack x).history? = none ↔ OutOfRange x := by
    unfold SentCompartment.history?
    split
    next h =>
      obtain ⟨length, low, high⟩ := h
      simp only [readBack, List.length_map] at length low high
      simp only [readBack, mapM_eq_none_iff, List.mem_map, classOf_eq_none_iff, exists_exists_and_eq_and]
      refine ⟨fun h => .inr (.inr (.inr h)), ?_⟩
      rintro (h | h | h | h)
      · omega
      · omega
      · omega
      · exact h
    next h =>
      simp only [true_iff]
      simp only [readBack, List.length_map] at h
      by_contra hx
      simp only [OutOfRange, not_or] at hx
      omega
  rw [admittedCompartments, mapM_eq_none_iff]
  simp only [List.mem_map, exists_exists_and_eq_and, Option.map_eq_none_iff, one]

/-- A class of the compartments read fails a test exactly when its byte was sent. -/
theorem any_readAs {sent : List (Byte × Byte × List Byte)} {cs : List (Nat × List ClassNo)}
    (h : List.Forall₂ ReadAs sent cs) (q : ClassNo → Bool) :
    cs.any (fun c => c.2.any q) = true
      ↔ ∃ x ∈ sent, ∃ k : ClassNo, BitVec.ofNat 8 (k.val + 1) ∈ x.2.2 ∧ q k = true := by
  have injective : Function.Injective (fun k : ClassNo => BitVec.ofNat 8 (k.val + 1)) := fun k j e => by
    have same : (BitVec.ofNat 8 (k.val + 1)).toNat = (BitVec.ofNat 8 (j.val + 1)).toNat := congrArg BitVec.toNat e
    rw [toNat_ofNat_byte (by omega), toNat_ofNat_byte (by omega)] at same
    exact Fin.ext (by omega)
  induction h with
  | nil => simp
  | @cons x c sent cs hxc _ ih =>
    have own (k : ClassNo) : BitVec.ofNat 8 (k.val + 1) ∈ x.2.2 ↔ k ∈ c.2 := by
      rw [hxc.history]
      exact List.mem_map_of_injective injective
    simp only [List.any_cons, Bool.or_eq_true, ih, List.any_eq_true, List.mem_cons, exists_eq_or_imp, own]

/-! ## The body as a whole -/

/-- An ADMIT whose compartments are not read answers FORMAT (R9). -/
theorem ownAdmit_of_unread (p : Port) {token : List Byte} (hl : token.length = 8) (n : Byte) {rest : List Byte}
    (h : sentCompartments n.toNat rest = none) : ownAdmit p (token ++ n :: rest) s = (s, refuse .format) := by
  have : (token ++ n :: rest).drop 8 = n :: rest := by rw [← hl]; exact List.drop_left
  simp [ownAdmit, this, h]

/-- An ADMIT whose compartments are read answers RANGE where its count, a compartment or its token is out of range
(R9). -/
theorem ownAdmit_of_outOfRange (p : Port) {token : List Byte} (hl : token.length = 8) {n : Byte} {rest : List Byte}
    {sent : List SentCompartment} (h : sentCompartments n.toNat rest = some sent)
    (bad : n.toNat = 0 ∨ 8 < n.toNat ∨ admittedCompartments sent = none ∨ tokenOf token = none) :
    ownAdmit p (token ++ n :: rest) s = (s, refuse .range) := by
  have drop : (token ++ n :: rest).drop 8 = n :: rest := by rw [← hl]; exact List.drop_left
  have take : (token ++ n :: rest).take 8 = token := by rw [← hl]; exact List.take_left
  by_cases hn : n.toNat = 0 ∨ 8 < n.toNat
  · simp only [ownAdmit, drop, h, if_pos hn]
  · simp only [ownAdmit, drop, take, h, if_neg hn]
    rw [← or_assoc] at bad
    rcases bad.resolve_left hn with bad | bad
    · simp only [bad]
    · rw [bad]; cases admittedCompartments sent <;> rfl

/-- And otherwise by its classes, its token, the free slots and the free records (R9, R10). -/
theorem ownAdmit_of_inRange (p : Port) {token : List Byte} (hl : token.length = 8) {n : Byte} {rest : List Byte}
    {sent : List SentCompartment} (h : sentCompartments n.toNat rest = some sent) (h1 : 1 ≤ n.toNat)
    (h8 : n.toNat ≤ 8) {cs : List (Nat × List ClassNo)} {t : List Byte} (hcs : admittedCompartments sent = some cs)
    (ht : tokenOf token = some t) :
    ownAdmit p (token ++ n :: rest) s =
      if cs.any (fun c => c.2.any (fun k => (s.ret.classes[k]).isNone)) then (s, refuse .cargoClass)
      else if (s.slotWithToken t).isSome then (s, refuse .duplicate)
      else s.freeSlot.elim (s, refuse .full) (fun i =>
        if s.ret.freeList.length < n.toNat then (s, refuse .full)
        else (s.admitTanker i t cs, okay (byte1 (slotNumber i)))) := by
  have drop : (token ++ n :: rest).drop 8 = n :: rest := by rw [← hl]; exact List.drop_left
  have take : (token ++ n :: rest).take 8 = token := by rw [← hl]; exact List.take_left
  have hn : ¬ (n.toNat = 0 ∨ 8 < n.toNat) := by omega
  simp only [ownAdmit, drop, take, h, if_neg hn, hcs, ht]
  cases s.freeSlot <;> rfl

/-- No slot is free exactly when each holds a tanker. -/
theorem State.freeSlot_eq_none : s.freeSlot = none ↔ ∀ i : Slot, s.ret.tankers[i] ≠ none := by
  simp [State.freeSlot, List.find?_eq_none]

/-- The lowest-numbered free slot is the one found (R10). -/
theorem State.freeSlot_eq_some {i : Slot} (hi : s.ret.tankers[i] = none)
    (lowest : ∀ j : Slot, j < i → s.ret.tankers[j] ≠ none) : s.freeSlot = some i := by
  unfold State.freeSlot
  rw [List.find?_eq_some_iff_getElem]
  refine ⟨by rw [hi]; rfl, i.val, by simp, by simp, fun j hj => ?_⟩
  have := lowest ⟨j, by omega⟩ hj
  rw [List.getElem_finRange]
  simpa [← Option.isSome_iff_ne_none] using this

/-- The eight characters of a token, as they are sent. -/
theorem tokenOf_eq_some_iff_sent {token t : List Byte} (hl : token.length = 8) :
    tokenOf token = some t ↔ TokenFits t ∧ token = t ++ List.replicate (8 - t.length) 32#8 := by
  constructor
  · intro h
    exact ⟨tokenFits_of_tokenOf h (by omega), tokenBytes_of_tokenOf h hl⟩
  · rintro ⟨fits, rfl⟩
    exact tokenOf_tokenBytes fits

/-- An ADMIT frame is given to its owner, and one too short for it answers FORMAT as its owner would (R165). -/
theorem exec_ownAdmit (ready : s.Ready .office) (tag : Byte) {body : List Byte} (hl : body.length ≤ 240) {t : State}
    {r : Reply} (ho : ownAdmit .office body s = (t, r)) :
    exec (.admitTanker .office tag body) s = .next (t.replies .office .admitTanker tag r.code r.body) := by
  by_cases h9 : 9 ≤ body.length
  · exact exec_office (k := .admitTanker) ready rfl rfl tag (by simpa [Entry.lengthOk] using h9) hl ho
  · have short : body.drop 8 = [] := List.drop_eq_nil_of_le (by omega)
    have : commonCheck .office .admitTanker body.length s = some .format := by
      simp [commonCheck, catalogue, officeEntry, Entry.lengthOk, h9]
    simp only [ownAdmit, short] at ho
    cases ho
    exact exec_refused ready .admitTanker tag body hl this

/-- An ADMIT body, its count apart. -/
theorem admitBody_eq (token : List Byte) (sent : List (Byte × Byte × List Byte)) :
    admitBody token sent = token ++ BitVec.ofNat 8 sent.length :: sent.flatMap spelled := by
  rw [admitBody, List.append_assoc]
  rfl

/-- Settles O21: the body's form by `sentCompartments_take` and `sentCompartments_flatMap`, then the checks in the order
of `ownAdmit_of_outOfRange` and `ownAdmit_of_inRange`. -/
theorem admitChecksInOrder : Obligations.AdmitChecksInOrder := by
  intro tag token sent extra s ready hl hcount hlens
  have count : (BitVec.ofNat 8 sent.length).toNat = sent.length := toNat_ofNat_byte hcount
  have answered {body : List Byte} (h240 : body.length ≤ 240) {c : AnswerCode}
      (ho : ownAdmit .office body s = (s, refuse c)) :
      exec (.admitTanker .office tag body) s = .next (s.replies .office .admitTanker tag c []) :=
    exec_ownAdmit ready tag h240 ho
  refine ⟨fun n h240 hn => answered (by simp only [List.length_take]; omega) ?_, fun h240 => ⟨fun he => ?_, ?_⟩⟩
  · rw [admitBody_eq] at hn ⊢
    by_cases h8 : n ≤ 8
    · have short : ((token ++ BitVec.ofNat 8 sent.length :: sent.flatMap spelled).take n).drop 8 = [] :=
        List.drop_eq_nil_of_le (by simp only [List.length_take]; omega)
      simp only [ownAdmit, short]
    · obtain ⟨m, rfl⟩ := Nat.exists_eq_add_of_lt (Nat.lt_of_not_le h8)
      have taken : (token ++ BitVec.ofNat 8 sent.length :: sent.flatMap spelled).take (8 + m + 1)
          = token ++ BitVec.ofNat 8 sent.length :: (sent.flatMap spelled).take m := by
        rw [List.take_append, List.take_of_length_le (by omega), hl, show 8 + m + 1 - 8 = m + 1 by omega,
          List.take_succ_cons]
      rw [taken]
      refine ownAdmit_of_unread _ hl _ ?_
      rw [count]
      refine sentCompartments_take hlens ?_
      simp only [List.length_append, List.length_cons, hl] at hn
      omega
  · refine answered h240 ?_
    rw [admitBody_eq, List.append_assoc, List.cons_append]
    refine ownAdmit_of_unread _ hl _ ?_
    rw [count, sentCompartments_flatMap hlens, if_neg he]
  · have h240 : (admitBody token sent).length ≤ 240 := by rw [List.length_append] at h240; omega
    have read : sentCompartments (BitVec.ofNat 8 sent.length).toNat (sent.flatMap spelled)
        = some (sent.map readBack) := by
      rw [count]
      have := sentCompartments_flatMap hlens []
      rwa [List.append_nil, if_pos rfl] at this
    refine ⟨fun bad => answered h240 ?_, fun t fits ht h1 h8 ranges => ?_⟩
    · rw [admitBody_eq]
      refine ownAdmit_of_outOfRange _ hl read ?_
      rw [count, admittedCompartments_eq_none_iff]
      rcases bad with rfl | bad | bad | bad
      · exact .inl rfl
      · exact .inr (.inl bad)
      · exact .inr (.inr (.inl bad))
      · refine .inr (.inr (.inr ?_))
        rw [Option.eq_none_iff_forall_ne_some]
        exact fun t h => bad ⟨t, (tokenOf_eq_some_iff_sent hl).mp h⟩
    · have inRange : admittedCompartments (sent.map readBack) ≠ none := by
        rw [Ne, admittedCompartments_eq_none_iff]
        rintro ⟨x, hx, bad⟩
        obtain ⟨length, low, high, classes⟩ := ranges x hx
        rcases bad with bad | bad | bad | ⟨k, hk, bad⟩
        · omega
        · omega
        · omega
        · have := classes k hk
          omega
      obtain ⟨cs, hcs⟩ := Option.ne_none_iff_exists'.mp inRange
      have tokenRead := (tokenOf_eq_some_iff_sent hl).mpr ⟨fits, ht⟩
      have owned := ownAdmit_of_inRange (s := s) .office hl read (by omega) (by omega) hcs tokenRead
      rw [← admitBody_eq, count] at owned
      have undefined := any_readAs (admittedCompartments_iff.mp hcs) (fun k => (s.ret.classes[k]).isNone)
      refine ⟨?_, fun defined => ?_⟩
      · rintro ⟨x, hx, k, hk, hnone⟩
        refine answered h240 (owned.trans (if_pos (undefined.mpr ⟨x, hx, k, hk, ?_⟩)))
        rw [hnone]; rfl
      · have classes : ¬ cs.any (fun c => c.2.any (fun k => (s.ret.classes[k]).isNone)) = true := by
          rw [undefined]
          rintro ⟨x, hx, k, hk, hnone⟩
          exact defined x hx k hk (Option.isNone_iff_eq_none.mp hnone)
        rw [if_neg classes] at owned
        refine ⟨?_, fun own => ?_⟩
        · rintro ⟨i, u, hu, e⟩
          refine answered h240 (owned.trans (if_pos (Option.isSome_iff_ne_none.mpr fun hd => ?_)))
          exact State.slotWithToken_eq_none.mp hd i u hu e
        · have fresh := State.slotWithToken_eq_none.mpr own
          rw [fresh, if_neg (by simp)] at owned
          intro hfull
          refine answered h240 (owned.trans ?_)
          cases hfree : s.freeSlot with
          | none => rfl
          | some i =>
            refine if_pos (hfull.resolve_left fun h => ?_)
            cases hfree.symm.trans (State.freeSlot_eq_none.mpr h)

/-- A number of two bytes is read back from them. -/
theorem number_byte2 {n : Nat} (h : n < 65536) : number (byte2 n) = n := by
  simp only [number, byte2, List.foldl_cons, List.foldl_nil, BitVec.toNat_ofNat]
  omega

/-- A compartment in range, as ADMIT sends it. -/
def sentOf (c : Nat × List ClassNo) : Byte × Byte × List Byte :=
  (BitVec.ofNat 8 (c.1 / 256), BitVec.ofNat 8 c.1, c.2.map (fun k => BitVec.ofNat 8 (k.val + 1)))

/-- It is spelled by its capacity, the length of its history, and its history's class numbers. -/
theorem spelled_sentOf (c : Nat × List ClassNo) :
    spelled (sentOf c) = byte2 c.1 ++ byte1 c.2.length ++ c.2.flatMap (fun k => byte1 (k.val + 1)) := by
  have : c.2.flatMap (fun k : ClassNo => byte1 (k.val + 1)) = c.2.map (fun k => BitVec.ofNat 8 (k.val + 1)) :=
    List.map_eq_flatMap.symm
  rw [this, spelled, sentOf, List.length_map]
  rfl

/-- It is read as itself (R9). -/
theorem readAs_sentOf {c : Nat × List ClassNo} (low : 500 ≤ c.1) (high : c.1 ≤ 30000) (length : c.2.length ≤ 3) :
    ReadAs (sentOf c) c :=
  ⟨number_byte2 (by omega), rfl, by simpa [sentOf] using length, low, high⟩

/-- Compartments in range are sent in at most six bytes each. -/
theorem length_flatMap_spelled_le {sent : List (Byte × Byte × List Byte)} (h : ∀ x ∈ sent, x.2.2.length ≤ 3) :
    (sent.flatMap spelled).length ≤ 6 * sent.length := by
  induction sent with
  | nil => simp
  | cons x sent ih =>
    have hx := h x (by simp)
    have := ih (fun y hy => h y (by simp [hy]))
    simp only [List.flatMap_cons, List.length_append, spelled, byte1, List.length_cons, List.length_nil]
    omega

/-- Settles O22: the body spells compartments in range, the slot found is the lowest free one, and the records are
written one after another (`State.admitRecords_eq_foldl`). -/
theorem admitTaken : Obligations.AdmitTaken := by
  intro tag token cs i s ready fits h1 h8 ranges own hi lowest room
  have ⟨_, eight, _⟩ := fits
  have length : (cs.map sentOf).length = cs.length := List.length_map _
  have count : (BitVec.ofNat 8 (cs.map sentOf).length).toNat = cs.length := by
    rw [length]; exact toNat_ofNat_byte (by omega)
  have short (x) (hx : x ∈ cs.map sentOf) : x.2.2.length ≤ 3 := by
    obtain ⟨c, hc, rfl⟩ := List.mem_map.mp hx
    obtain ⟨-, -, h3, -⟩ := ranges c hc
    simpa [sentOf] using h3
  have body : tokenBytes token ++ byte1 cs.length
      ++ cs.flatMap (fun x => byte2 x.1 ++ byte1 x.2.length ++ x.2.flatMap (fun k => byte1 (k.val + 1)))
        = tokenBytes token ++ BitVec.ofNat 8 (cs.map sentOf).length :: (cs.map sentOf).flatMap spelled := by
    rw [List.append_assoc, length, List.flatMap_map]
    simp only [spelled_sentOf]
    rfl
  have read : sentCompartments (BitVec.ofNat 8 (cs.map sentOf).length).toNat ((cs.map sentOf).flatMap spelled)
      = some ((cs.map sentOf).map readBack) := by
    have := sentCompartments_flatMap (fun x hx => (short x hx).trans_lt (by omega)) []
    rwa [List.append_nil, if_pos rfl, length, ← count] at this
  have inRange : admittedCompartments ((cs.map sentOf).map readBack) = some cs := by
    rw [admittedCompartments_iff, List.forall₂_map_left_iff, List.forall₂_same]
    intro c hc
    obtain ⟨low, high, h3, -⟩ := ranges c hc
    exact readAs_sentOf low high h3
  have defined : ¬ cs.any (fun c => c.2.any (fun k => (s.ret.classes[k]).isNone)) = true := by
    simp only [List.any_eq_true, not_exists, not_and, Option.isNone_iff_eq_none]
    intro c hc k hk
    obtain ⟨-, -, -, classes⟩ := ranges c hc
    exact classes k hk
  have owned : ownAdmit .office (tokenBytes token ++ BitVec.ofNat 8 (cs.map sentOf).length
      :: (cs.map sentOf).flatMap spelled) s = (s.admitTanker i token cs, okay (byte1 (slotNumber i))) := by
    rw [ownAdmit_of_inRange .office (length_tokenBytes eight) read (by omega) (by omega) inRange
      (tokenOf_tokenBytes fits), if_neg defined, State.slotWithToken_eq_none.mpr own, if_neg (by simp),
      State.freeSlot_eq_some hi lowest, count]
    exact if_neg (by omega)
  have h240 : (tokenBytes token ++ BitVec.ofNat 8 (cs.map sentOf).length
      :: (cs.map sentOf).flatMap spelled).length ≤ 240 := by
    have := length_flatMap_spelled_le short
    rw [List.length_append, length_tokenBytes eight, List.length_cons]
    omega
  rw [body, exec_ownAdmit ready tag h240 owned, State.admitTanker, State.admitRecords_eq_foldl]
  rfl

end Sys2Proof.Machine
end

section
/-! # READ-TANKER and READ-COMPARTMENT (R17, R18, 10.6) -/

namespace Sys2Proof.Machine

variable {s : State}

/-! ## Fields of a body, one after another -/

/-- The bytes of a field of each width that 10.6 has. -/
theorem Field.sent_one (o v : Nat) : Field.sent ⟨o, 1, v⟩ = byte1 v := by simp [Field.sent, byte1]

theorem Field.sent_two (o v : Nat) : Field.sent ⟨o, 2, v⟩ = byte2 v := by
  simp [Field.sent, byte2, List.range_succ]

theorem Field.sent_three (o v : Nat) : Field.sent ⟨o, 3, v⟩ = byte3 v := by
  simp [Field.sent, byte3, List.range_succ]

theorem Field.sent_four (o v : Nat) : Field.sent ⟨o, 4, v⟩ = byte4 v := by
  simp [Field.sent, byte4, List.range_succ]

theorem Field.length_sent (f : Field) : f.sent.length = f.bytes := by simp [Field.sent]

/-- Fields lie one after another from an offset on. -/
def contiguousFrom : Nat → List (Nat × Nat) → Bool
  | _, [] => true
  | o, (offset, bytes) :: rest => o == offset && contiguousFrom (o + bytes) rest

/-- The bytes of fields that lie one after another hold each field at its offset. -/
theorem drop_take_of_contiguous {fs : List Field} {o : Nat}
    (h : contiguousFrom o (fs.map (fun f => (f.offset, f.bytes))) = true) :
    ∀ f ∈ fs, o ≤ f.offset ∧ ((fs.flatMap Field.sent).drop (f.offset - o)).take f.bytes = f.sent := by
  induction fs generalizing o with
  | nil => simp
  | cons g fs ih =>
    simp only [List.map_cons, contiguousFrom, Bool.and_eq_true, beq_iff_eq] at h
    obtain ⟨rfl, h⟩ := h
    intro f hf
    rcases List.mem_cons.mp hf with rfl | hf
    · refine ⟨le_refl _, ?_⟩
      rw [Nat.sub_self, List.drop_zero, List.flatMap_cons, ← f.length_sent, List.take_left]
    · obtain ⟨hle, slice⟩ := ih h f hf
      refine ⟨by omega, ?_⟩
      rw [List.flatMap_cons, show f.offset - g.offset = g.sent.length + (f.offset - (g.offset + g.bytes)) by
        rw [g.length_sent]; omega, ← List.drop_drop, List.drop_left, slice]

/-- A list of values at its full length is its values, and zeroes beyond its count (10.6). -/
theorem padded_flatMap {b w : Nat} {e : Nat → List Byte} (he : ∀ v, (e v).length = b)
    (zero : e 0 = List.replicate b 0#8) {l : List Nat} (hl : l.length ≤ w) :
    padded (b * w) (l.flatMap e) = (List.range w).flatMap (fun j => e (l[j]?.getD 0)) := by
  have values : (List.range w).map (fun j => l[j]?.getD 0) = l ++ List.replicate (w - l.length) 0 := by
    refine List.ext_getElem (by simp; omega) (fun j h1 h2 => ?_)
    rw [List.getElem_map, List.getElem_range, List.getElem_append]
    split
    next h => rw [List.getElem?_eq_getElem h]; rfl
    next h => rw [List.getElem?_eq_none (by omega), List.getElem_replicate]; rfl
  have length : (l.flatMap e).length = b * l.length := by
    rw [List.length_flatMap]
    simp [he, Nat.mul_comm]
  have zeroes (n : Nat) : (List.replicate n 0).flatMap e = List.replicate (b * n) 0#8 := by
    induction n with
    | zero => simp
    | succ n ih =>
      rw [List.replicate_succ, List.flatMap_cons, ih, zero, List.replicate_append_replicate, Nat.mul_succ, Nat.add_comm]
  have gathered : (List.range w).flatMap (fun j => e (l[j]?.getD 0))
      = ((List.range w).map (fun j => l[j]?.getD 0)).flatMap e := by rw [List.flatMap_map]
  rw [gathered, values, List.flatMap_append, zeroes, padded, length, Nat.mul_sub]

/-- A list of values of one byte at its full length. -/
theorem padded_byte1 {w : Nat} {l : List Nat} (hl : l.length ≤ w) :
    padded w (l.flatMap byte1) = (List.range w).flatMap (fun j => byte1 (l[j]?.getD 0)) := by
  have := padded_flatMap (b := 1) (e := byte1) (fun _ => rfl) rfl hl
  rwa [Nat.one_mul] at this

/-! ## The parts of a record (10.6) -/

/-- A flag in a byte of its own. -/
abbrev flagNumber (b : Bool) : Nat := if b = true then 1 else 0

/-- The number of some flags, the first standing for 1. -/
theorem flagsNumber_cons (b : Bool) (flags : List Bool) :
    flagsNumber (b :: flags) = flagNumber b + 2 * flagsNumber flags := by
  cases b <;> simp [flagsNumber, Nat.add_comm]

theorem flagsNumber_nil : flagsNumber [] = 0 := rfl

section

variable (c : Compartment)

theorem Compartment.intentBytes_eq :
    c.intentBytes = byte1 (flagNumber c.intent.isSome) ++ byte1 ((c.intent.map (fun k => k.val + 1)).getD 0)
      ++ byte1 ((c.intent.map (fun _ => (c.demand.map Demand.code).getD 0)).getD 0)
      ++ byte1 ((c.intent.map (fun _ => (c.program.map (fun k => k.val + 1)).getD 0)).getD 0) := by
  unfold Compartment.intentBytes
  cases c.intent with
  | none => rfl
  | some k => cases c.demand <;> cases c.program <;> rfl

theorem Compartment.progressBytes_eq (h : ∀ p ∈ c.progress, p.phaseDoses.length ≤ 7) :
    c.progressBytes = byte1 (flagNumber c.progress.isSome) ++ byte1 ((c.progress.map (·.phaseIndex)).getD 0)
      ++ byte3 ((c.progress.map (·.dose)).getD 0) ++ byte1 ((c.progress.map (·.remainder)).getD 0)
      ++ byte2 ((c.progress.map (·.runningTime)).getD 0) ++ byte1 ((c.progress.map (·.endpointCount)).getD 0)
      ++ byte1 ((c.progress.map (·.sharesHeld)).getD 0)
      ++ byte1 ((c.progress.map (fun p => flagNumber p.marks.clamped + 2 * flagNumber p.marks.stale
        + 4 * flagNumber p.marks.overrange + 8 * flagNumber p.marks.probe)).getD 0)
      ++ byte1 ((c.progress.map (fun p => (p.heldFrom.map CState.code).getD 0)).getD 0)
      ++ byte4 ((c.progress.map (·.queuedSince)).getD 0)
      ++ byte4 ((c.progress.map (fun p => p.heldSince.getD 0)).getD 0)
      ++ byte1 ((c.progress.map (·.phaseDoses.length)).getD 0)
      ++ (List.range 7).flatMap (fun j => byte3 ((c.progress.map (fun p => (p.phaseDoses[j]?).getD 0)).getD 0)) := by
  unfold Compartment.progressBytes
  cases hp : c.progress with
  | none => decide
  | some p =>
    have marks : p.marks.number = flagNumber p.marks.clamped + 2 * flagNumber p.marks.stale
        + 4 * flagNumber p.marks.overrange + 8 * flagNumber p.marks.probe := by
      simp only [PhaseMarks.number, flagsNumber_cons, flagsNumber_nil]
      omega
    have doses := padded_flatMap (b := 3) (e := byte3) (fun _ => rfl) rfl (h p hp)
    have held : (match p.heldFrom with | some x => x.code | none => 0) = (p.heldFrom.map CState.code).getD 0 := by
      cases p.heldFrom <;> rfl
    simp only [Option.map_some, Option.getD_some, Option.isSome_some, marks, ← doses, ← held]
    rfl

theorem Compartment.summaryBytes_eq (h : ∀ w ∈ c.summary, w.phaseDoses.length ≤ 8) :
    c.summaryBytes = byte1 (flagNumber c.summary.isSome) ++ byte1 ((c.summary.map (·.kind.code)).getD 0)
      ++ byte1 ((c.summary.map (·.phaseDoses.length)).getD 0)
      ++ (List.range 8).flatMap (fun j => byte3 ((c.summary.map (fun w => (w.phaseDoses[j]?).getD 0)).getD 0))
      ++ byte1 ((c.summary.map (fun w => flagNumber w.finalConductivity.isSome)).getD 0)
      ++ byte2 ((c.summary.map (fun w => w.finalConductivity.getD 0)).getD 0) := by
  unfold Compartment.summaryBytes
  cases hw : c.summary with
  | none => decide
  | some w =>
    have doses := padded_flatMap (b := 3) (e := byte3) (fun _ => rfl) rfl (h w hw)
    simp only [Option.map_some, Option.getD_some, Option.isSome_some, ← doses]
    cases w.finalConductivity <;> simp [flagNumber]

theorem Compartment.releaseBytes_eq :
    c.releaseBytes = byte1 (flagNumber c.release.isSome) ++ byte3 ((c.release.map (·.certificate)).getD 0)
      ++ byte1 ((c.release.map (fun y => y.releasedFor.val + 1)).getD 0)
      ++ byte4 ((c.release.map (·.stamp)).getD 0) ++ byte4 ((c.release.map (·.deadline)).getD 0)
      ++ byte2 ((c.release.map (·.inspector)).getD 0) := by
  unfold Compartment.releaseBytes
  cases c.release with
  | none => decide
  | some x => rfl

theorem Compartment.fillBytes_eq :
    c.fillBytes = byte1 (flagNumber c.fill.isSome) ++ byte1 ((c.fill.map (fun f => f.cargo.val + 1)).getD 0)
      ++ byte2 ((c.fill.map (·.preset)).getD 0) ++ byte3 ((c.fill.map (·.counted)).getD 0)
      ++ byte1 ((c.fill.map (fun f => flagNumber f.reported.isSome)).getD 0)
      ++ byte2 ((c.fill.map (fun f => f.reported.getD 0)).getD 0)
      ++ byte1 ((c.fill.map (fun f => flagNumber f.marks.clamped + 2 * flagNumber f.marks.presetReached
        + 4 * flagNumber f.marks.overfill + 8 * flagNumber f.marks.stopped + 16 * flagNumber f.marks.mismatch
        + 32 * flagNumber f.marks.interrupted + 64 * flagNumber f.marks.aborted)).getD 0) := by
  unfold Compartment.fillBytes
  cases c.fill with
  | none => decide
  | some f =>
    have marks : f.marks.number = flagNumber f.marks.clamped + 2 * flagNumber f.marks.presetReached
        + 4 * flagNumber f.marks.overfill + 8 * flagNumber f.marks.stopped + 16 * flagNumber f.marks.mismatch
        + 32 * flagNumber f.marks.interrupted + 64 * flagNumber f.marks.aborted := by
      simp only [FillMarks.number, flagsNumber_cons, flagsNumber_nil]
      omega
    simp only [Option.map_some, Option.getD_some, Option.isSome_some, marks]
    cases f.reported <;> simp [classNumber, flagNumber]

end

/-- The history's class numbers at their full length, entries beyond the count as zeroes. -/
theorem historyBytes_eq {history : List ClassNo} (h : history.length ≤ 3) :
    padded 3 (history.flatMap (fun k => byte1 (classNumber k)))
      = (List.range 3).flatMap (fun j => byte1 ((history[j]?.map (fun k => k.val + 1)).getD 0)) := by
  have := padded_byte1 (l := history.map (fun k => k.val + 1)) (w := 3) (by simpa using h)
  simp only [List.flatMap_map, List.getElem?_map] at this
  exact this

/-- The code of a note is 0 without one. -/
theorem noteCode_eq (n : Option Note) : noteCode n = (n.map Note.code).getD 0 := by cases n <;> rfl

/-- A record's body is its fields, one after another (10.6). -/
theorem Named.bytes_eq_fields (x : Named) (h : x.record.ListsFit) : x.bytes = x.fields.flatMap Field.sent := by
  obtain ⟨history, progress, summary⟩ := h
  unfold Named.bytes Named.fields
  rw [historyBytes_eq history, noteCode_eq, Compartment.intentBytes_eq, Compartment.progressBytes_eq _ progress,
    Compartment.summaryBytes_eq _ summary, Compartment.releaseBytes_eq, Compartment.fillBytes_eq]
  simp only [List.flatMap_append, List.flatMap_cons, List.flatMap_nil, List.flatMap_map, Field.sent_one,
    Field.sent_two, Field.sent_three, Field.sent_four, List.append_assoc, List.append_nil]
  rfl

/-- The fields of 10.6 lie one after another from 0 to 113. -/
theorem Named.contiguous_fields (x : Named) :
    contiguousFrom 0 (x.fields.map (fun f => (f.offset, f.bytes))) = true := by
  rfl

theorem Named.length_fields (x : Named) : (x.fields.flatMap Field.sent).length = 113 := by
  simp [Field.length_sent, Named.fields, List.range_succ]

/-! ## The two requests -/

/-- Settles O25: the reports are the owners' answers, and a record's body is its fields one after another
(`Named.bytes_eq_fields`). -/
theorem readingTheTable : Obligations.ReadingTheTable := by
  intro tag s report listed reports
  have lines {i : Slot} {t : Tanker} (ht : listed t) : s.tankerBytes i t = report i t := by
    have each : ∀ r ∈ t.compartments, s.compartmentLine r = (match s.ret.pool[r] with
        | none => []
        | some c => byte1 r.val ++ byte1 c.state.code ++ byte1 (match c.note with | none => 0 | some x => x.code)) := by
      intro r hr
      obtain ⟨c, hc⟩ := Option.ne_none_iff_exists'.mp (ht r hr)
      have hr : s.record r = some c := hc
      simp only [State.compartmentLine, hr, hc]
      cases c.note <;> rfl
    have binding : bindingCode t.binding
        = (match t.binding with | none => 0 | some (.bay b) => b.val + 1 | some .rack => 5) := by
      rcases t.binding with _ | _ | _ <;> rfl
    simp only [State.tankerBytes, report, List.flatMap_congr each, binding]
    rfl
  have reported {x : Named} {p : Port} {request : List Byte}
      (ho : exec (.readCompartment p tag request) s = .next (s.replies p .readCompartment tag .ok x.bytes)) :
      reports x p request := by
    intro fit
    refine ⟨x.bytes, ho, ?_, fun f hf => ?_⟩ <;> rw [Named.bytes_eq_fields x fit]
    · exact x.length_fields
    · exact (drop_take_of_contiguous x.contiguous_fields f hf).2
  refine ⟨fun ready => ⟨fun slot hs => ?_, fun slot i t ht hs hl => ?_, fun slot n x hx => reported ?_⟩,
    fun pos ready => ⟨fun hp => ?_, fun i t ht hp hl => ?_, fun n x hx => reported ?_⟩⟩
  · refine exec_office (k := .readTanker) (r := refuse .noTanker) ready rfl rfl tag (body := [slot]) rfl (by simp) ?_
    simp [owner, ownReadTanker, Port.position, State.tankerAt_eq_none hs]
  · refine exec_office (k := .readTanker) (r := okay (report i t)) ready rfl rfl tag (body := [slot]) rfl (by simp) ?_
    simp only [owner, ownReadTanker, Port.position, State.tankerAt_eq_some hs ht, lines hl]
  · refine exec_office (k := .readCompartment) (r := okay x.bytes) ready rfl rfl tag (body := [slot, n]) rfl
      (by simp) ?_
    simp only [owner, ownReadCompartment, Port.position, hx]
  · refine exec_refused (k := .readTanker) ready tag [] (by simp) ?_
    cases pos <;> simp [commonCheck, catalogue, bayEntry, rackEntry, positionEntry, boundEntry, Entry.lengthOk,
      State.unboundAt, Position.port, Port.position, hp]
  · have bound := State.boundTanker_eq_some hp ht
    refine exec_owned (k := .readTanker) (r := okay (report i t)) ready tag [] (by simp)
      (commonCheck_none (e := boundEntry 0 true) (by cases pos <;> rfl) rfl (fun _ => rfl) (fun _ => ?_)) ?_
    · cases pos <;> simp [State.unboundAt, Position.port, Port.position, hp]
    · cases pos <;> simp only [owner, ownReadTanker, Position.port, Port.position, bound, lines hl]
  · refine exec_owned (k := .readCompartment) (r := okay x.bytes) ready tag [n] (by simp)
      (commonCheck_none (e := boundEntry 1 true) (by cases pos <;> rfl) rfl (fun _ => rfl)
        (fun _ => State.bound_of_nameBound hx)) ?_
    cases pos <;> simp only [owner, ownReadCompartment, Position.port, Port.position, hx]

end Sys2Proof.Machine
end

section
/-! # Reading the phase records of a program (R28, R29, 2.3) -/

namespace Sys2Proof.Machine

/-! ## Numbers of several bytes -/

theorem number_append (bs : List Byte) (b : Byte) : number (bs ++ [b]) = 256 * number bs + b.toNat := by
  simp [number]

/-- A number sent in k bytes is below 256 to the power k. -/
theorem number_lt (bs : List Byte) : number bs < 256 ^ bs.length := by
  induction bs using List.reverseRecOn with
  | nil => simp [number]
  | append_singleton bs b ih =>
    have := b.isLt
    rw [number_append, List.length_append, List.length_singleton, Nat.pow_succ]
    omega

/-- A number of three bytes is read back from them. -/
theorem number_byte3 {n : Nat} (h : n < 16777216) : number (byte3 n) = n := by
  simp only [number, byte3, List.foldl_cons, List.foldl_nil, BitVec.toNat_ofNat]
  omega

/-! ## The fields of one phase -/

theorem isOneTwoFourEight_iff (n : Nat) : isOneTwoFourEight n = true ↔ OneTwoFourEight n := by
  simp [isOneTwoFourEight, or_assoc]

/-- The byte of a phase kind is read as that kind (2.3). -/
theorem phaseKindOf_code (k : PhaseKind) : phaseKindOf (BitVec.ofNat 8 k.code).toNat = some k := by cases k <;> rfl

theorem phaseKindOf_eq_none (n : Nat) (h : n = 0 ∨ 4 < n) : phaseKindOf n = none := by
  rcases h with rfl | h
  · rfl
  · obtain ⟨m, rfl⟩ := Nat.exists_eq_add_of_lt h
    rw [show 4 + m + 1 = m + 5 by omega]
    rfl

theorem basisOf_code (b : Basis) : basisOf (BitVec.ofNat 8 b.code).toNat = some b := by cases b <;> rfl

theorem basisOf_eq_none (n : Nat) (h : n = 0 ∨ 2 < n) : basisOf n = none := by
  rcases h with rfl | h
  · rfl
  · obtain ⟨m, rfl⟩ := Nat.exists_eq_add_of_lt h
    rw [show 2 + m + 1 = m + 3 by omega]
    rfl

/-- An endpoint read: none for the flag 0, whatever the other bytes are, and otherwise one in range (R29). -/
theorem endpointOf_eq_some_iff (flag limit qualifying : Nat) (o : Option Endpoint) :
    endpointOf flag limit qualifying = some o ↔
      flag = 0 ∧ o = none
        ∨ flag = 1 ∧ limit ≤ 2042 ∧ OneTwoFourEight qualifying ∧ o = some ⟨limit, qualifying⟩ := by
  unfold endpointOf
  simp only [isOneTwoFourEight_iff]
  by_cases h0 : flag = 0
  · simp [h0, eq_comm]
  · by_cases h1 : flag = 1 ∧ limit ≤ 2042 ∧ OneTwoFourEight qualifying
    · obtain ⟨h1, h2, h3⟩ := h1
      simp only [h1, h2, h3]
      simp [eq_comm]
    · rw [if_neg h0, if_neg h1]
      simp only [reduceCtorEq, h0, false_and, false_or, false_iff]
      exact fun ⟨f, l, q, _⟩ => h1 ⟨f, l, q⟩

/-- The numeric fields are in the ranges of R28. -/
theorem phaseNumbersInRange_iff (q floor shares maxDuration low high : Nat) :
    phaseNumbersInRange q floor shares maxDuration low high = true ↔
      1 ≤ q ∧ q ≤ 8000000 ∧ floor ≤ 190 ∧ 1 ≤ shares ∧ shares ≤ 4 ∧ 60 ≤ maxDuration ∧ maxDuration ≤ 7200
        ∧ low ≤ 4095 ∧ low ≤ high ∧ high ≤ 4095 := by
  simp [phaseNumbersInRange, and_assoc]

/-! ## One phase record -/

/-- A phase read is in the ranges of R28. -/
theorem inRange_of_phaseOfBytes {bs : List Byte} {ph : Phase} (h : phaseOfBytes bs = some ph) : ph.InRange := by
  unfold phaseOfBytes at h
  split at h
  next k b q1 q2 q3 f d m1 m2 e l1 l2 n lo1 lo2 hi1 hi2 st =>
    split at h
    next kind basis endpoint _ _ he =>
      split at h
      next hn =>
        cases h
        obtain ⟨q1, q2, floor, d1, d4, m60, m7200, -, lowHigh, high⟩ := (phaseNumbersInRange_iff _ _ _ _ _ _).mp hn
        refine ⟨q1, q2, floor, d1, d4, m60, m7200, lowHigh, high, Nat.le_of_lt_succ st.isLt, fun x hx => ?_⟩
        rcases (endpointOf_eq_some_iff _ _ _ _).mp he with ⟨-, rfl⟩ | ⟨-, limit, qualifying, rfl⟩
        · cases hx
        · cases hx
          exact ⟨limit, qualifying⟩
      · cases h
    · cases h
  · cases h

/-- A phase in range is read from bytes that give its fields (2.3, R29). -/
theorem phaseOfBytes_eq_some {ph : Phase} (h : ph.InRange)
    {k b q1 q2 q3 f d m1 m2 e l1 l2 n lo1 lo2 hi1 hi2 st : Byte}
    (kind : phaseKindOf k.toNat = some ph.kind) (basis : basisOf b.toNat = some ph.basis)
    (demandQ : number [q1, q2, q3] = ph.demandQ) (floor : f.toNat = ph.floor) (shares : d.toNat = ph.shares)
    (maxDuration : number [m1, m2] = ph.maxDuration)
    (endpoint : endpointOf e.toNat (number [l1, l2]) n.toNat = some ph.endpoint)
    (sweepLow : number [lo1, lo2] = ph.sweepLow) (sweepHigh : number [hi1, hi2] = ph.sweepHigh)
    (sweepStep : st.toNat = ph.sweepStep) :
    phaseOfBytes [k, b, q1, q2, q3, f, d, m1, m2, e, l1, l2, n, lo1, lo2, hi1, hi2, st] = some ph := by
  obtain ⟨q1, q2, f, d1, d4, m60, m7200, lowHigh, high, -⟩ := h
  have numbers := (phaseNumbersInRange_iff _ _ _ _ _ _).mpr
    ⟨q1, q2, f, d1, d4, m60, m7200, lowHigh.trans high, lowHigh, high⟩
  simp only [phaseOfBytes, kind, basis, endpoint, demandQ, floor, shares, maxDuration, sweepLow, sweepHigh, sweepStep,
    numbers, if_true]

/-- A phase in range is read back from the bytes that send it, whatever stands for the limit and the qualifying number
of an absent endpoint (R29). -/
theorem phaseOfBytes_sentBytes {ph : Phase} (h : ph.InRange) (l1 l2 n : Byte) :
    phaseOfBytes (ph.sentBytes l1 l2 n) = some ph := by
  have ⟨_, _, _, _, _, _, _, _, _, _, limits⟩ := h
  have kind := phaseKindOf_code ph.kind
  have basis := basisOf_code ph.basis
  have demandQ : number (byte3 ph.demandQ) = ph.demandQ := number_byte3 (by omega)
  have floor : (BitVec.ofNat 8 ph.floor).toNat = ph.floor := toNat_ofNat_byte (by omega)
  have shares : (BitVec.ofNat 8 ph.shares).toNat = ph.shares := toNat_ofNat_byte (by omega)
  have maxDuration : number (byte2 ph.maxDuration) = ph.maxDuration := number_byte2 (by omega)
  have sweepLow : number (byte2 ph.sweepLow) = ph.sweepLow := number_byte2 (by omega)
  have sweepHigh : number (byte2 ph.sweepHigh) = ph.sweepHigh := number_byte2 (by omega)
  have sweepStep : (BitVec.ofNat 8 ph.sweepStep).toNat = ph.sweepStep := toNat_ofNat_byte (by omega)
  rw [Phase.sentBytes]
  cases he : ph.endpoint with
  | none =>
    have endpoint : endpointOf (0#8 : Byte).toNat (number [l1, l2]) n.toNat = some ph.endpoint := by rw [he]; rfl
    exact phaseOfBytes_eq_some h kind basis demandQ floor shares maxDuration endpoint sweepLow sweepHigh sweepStep
  | some x =>
    obtain ⟨limit, qualifying⟩ := limits x he
    have endpoint : endpointOf (1#8 : Byte).toNat (number (byte2 x.limit)) (BitVec.ofNat 8 x.qualifying).toNat
        = some ph.endpoint := by
      rw [number_byte2 (by omega), toNat_ofNat_byte (n := x.qualifying) (by omega), he]
      exact (endpointOf_eq_some_iff _ _ _ _).mpr (.inr ⟨rfl, limit, qualifying, rfl⟩)
    exact phaseOfBytes_eq_some h kind basis demandQ floor shares maxDuration endpoint sweepLow sweepHigh sweepStep

/-- READ-PROGRAM sends a phase in the form WRITE-PROGRAM takes, the limit and the qualifying number of an absent
endpoint as 0 (R31). -/
theorem Phase.bytes_eq_sentBytes (ph : Phase) : ph.bytes = ph.sentBytes 0#8 0#8 0#8 := by
  unfold Phase.bytes Phase.sentBytes
  cases ph.endpoint <;> rfl

/-- A phase record with a field out of its range is not read (R29). -/
theorem phaseOfBytes_eq_none {bs : List Byte} (h : BadPhase bs) : phaseOfBytes bs = none := by
  unfold phaseOfBytes
  split
  next k b q1 q2 q3 f d m1 m2 e l1 l2 n lo1 lo2 hi1 hi2 st =>
    have bad := h _ _ _ _ _ _ _ _ _ _ _ _ _ _ _ _ _ _ rfl
    split
    next kind basis endpoint hk hb he =>
      refine if_neg fun hn => ?_
      obtain ⟨_, _, _, _, _, _, _, _, _, _⟩ := (phaseNumbersInRange_iff _ _ _ _ _ _).mp hn
      have k4 : ¬ (k.toNat = 0 ∨ 4 < k.toNat) := fun e => by rw [phaseKindOf_eq_none _ e] at hk; cases hk
      have b2 : ¬ (b.toNat = 0 ∨ 2 < b.toNat) := fun e => by rw [basisOf_eq_none _ e] at hb; cases hb
      rcases (endpointOf_eq_some_iff _ _ _ _).mp he with ⟨flag, -⟩ | ⟨flag, limit, qualifying, -⟩ <;> omega
    · rfl
  · rfl

/-! ## The phases of a program -/

/-- The phases read are as many as the count, each in range (R29). -/
theorem of_phasesOfBytes {n : Nat} {bs : List Byte} {phs : List Phase} (h : phasesOfBytes n bs = some phs) :
    phs.length = n ∧ ∀ ph ∈ phs, ph.InRange := by
  induction n generalizing bs phs with
  | zero => cases h; simp
  | succ n ih =>
    unfold phasesOfBytes at h
    split at h
    next ph rest hph hrest =>
      cases h
      obtain ⟨length, inRange⟩ := ih hrest
      refine ⟨by simp [length], fun x hx => ?_⟩
      rcases List.mem_cons.mp hx with rfl | hx
      · exact inRange_of_phaseOfBytes hph
      · exact inRange x hx
    · cases h

theorem Phase.length_sentBytes (ph : Phase) (l1 l2 n : Byte) : (ph.sentBytes l1 l2 n).length = 18 := by
  unfold Phase.sentBytes
  cases ph.endpoint <;> simp [byte1, byte2, byte3]

/-- Phases in range are read back from the bytes that send them (R29). -/
theorem phasesOfBytes_sent {sent : List (Phase × Byte × Byte × Byte)} (h : ∀ x ∈ sent, x.1.InRange) :
    phasesOfBytes sent.length (sent.flatMap (fun x => x.1.sentBytes x.2.1 x.2.2.1 x.2.2.2))
      = some (sent.map Prod.fst) := by
  induction sent with
  | nil => rfl
  | cons x sent ih =>
    have length := x.1.length_sentBytes x.2.1 x.2.2.1 x.2.2.2
    rw [List.length_cons, List.flatMap_cons, phasesOfBytes, List.take_left' length, List.drop_left' length,
      phaseOfBytes_sentBytes (h x (by simp)), ih (fun y hy => h y (by simp [hy]))]
    rfl

/-- No program is read from a body with a phase record out of range (R29). -/
theorem phasesOfBytes_eq_none {n i : Nat} (hi : i < n) {bs : List Byte}
    (h : phaseOfBytes ((bs.drop (18 * i)).take 18) = none) : phasesOfBytes n bs = none := by
  induction n generalizing i bs with
  | zero => omega
  | succ n ih =>
    unfold phasesOfBytes
    cases i with
    | zero => rw [Nat.mul_zero, List.drop_zero] at h; rw [h]
    | succ i =>
      have : phasesOfBytes n (bs.drop 18) = none :=
        ih (i := i) (by omega) (by rwa [List.drop_drop, show 18 + 18 * i = 18 * (i + 1) by omega])
      rw [this]
      cases phaseOfBytes (bs.take 18) <;> rfl

end Sys2Proof.Machine
end

section
/-! # The law of the ranges through the model's operations

Each operation has one lemma saying that it keeps the law. Most write nothing that the law reads, and the law then
holds of the next state as it stands; the ones that count or store a number are shown to store one in range. -/

namespace Sys2Proof.Machine

variable {s : State}

/-! ## What the law reads -/

/-- The counters of a wash unit stand in their ranges (R85, R42, R88). -/
abbrev WashUnit.InRange (u : WashUnit) : Prop :=
  u.intervalCount ≤ 1000 ∧ u.endpointCounter ≤ 8 ∧ ∀ x ∈ u.supply, x.age ≤ 65535

/-- What the law says of the retained numbers while their marker is valid. -/
abbrev Retained.NumbersInRange (r : Retained) : Prop :=
  (∀ i : Fin 25, settingLow i ≤ r.settings[i] ∧ r.settings[i] ≤ settingHigh i
      ∧ (isFilterSetting i = true → OneTwoFourEight r.settings[i]))
    ∧ r.clock ≤ 4294967295 ∧ 1 ≤ r.certificate ∧ r.certificate ≤ 999999
    ∧ (∀ k : ProgramNo, (r.programs[k]).length ≤ 8 ∧ ∀ ph ∈ r.programs[k], ph.InRange)
    ∧ ∀ l : Line, OneTwoFourEight (r.routes[l]).filterN

namespace State.RangeLaw

/-- A powered part's retained numbers are in range. -/
theorem numbers (h : s.RangeLaw) (hp : s.mainPower = true) : s.ret.NumbersInRange :=
  have ⟨stored, powered⟩ := h
  stored (powered hp).1

/-- A powered part's marker is valid. -/
theorem marker (h : s.RangeLaw) (hp : s.mainPower = true) : s.ret.markerValid = true :=
  have ⟨_, powered⟩ := h
  (powered hp).1

/-- The retained domain rewritten with its numbers in range, its marker and its loop capacity as they were. -/
theorem withRet (h : s.RangeLaw) {r : Retained} (valid : r.markerValid = s.ret.markerValid)
    (capacity : r.loopCapacity = s.ret.loopCapacity) (numbers : s.ret.NumbersInRange → r.NumbersInRange) :
    { s with ret := r }.RangeLaw := by
  obtain ⟨stored, powered⟩ := h
  refine ⟨fun hm => numbers (stored (valid ▸ hm)), fun hp => ?_⟩
  obtain ⟨hm, hc, counters⟩ := powered hp
  exact ⟨valid.trans hm, hc.trans capacity.symm, counters⟩

/-- The active domain rewritten with the capacity it had and its counters in range. -/
theorem withAct (h : s.RangeLaw) {a : Active} (capacity : a.arbiter.capacity = s.act.arbiter.capacity)
    (counters : s.act.CountersInRange → a.CountersInRange) : { s with act := a }.RangeLaw := by
  obtain ⟨stored, powered⟩ := h
  refine ⟨stored, fun hp => ?_⟩
  obtain ⟨hm, hc, inRange⟩ := powered hp
  exact ⟨hm, capacity.trans hc, counters inRange⟩

/-! ## The named updates -/

theorem setUnit (h : s.RangeLaw) (b : Bay) {u : WashUnit} (hu : (s.act.units[b]).InRange → u.InRange) :
    (s.setUnit b u).RangeLaw := by
  refine h.withAct rfl (fun ⟨pulses, lines, slots, units, ports⟩ => ⟨pulses, lines, slots, fun j => ?_, ports⟩)
  rw [table_set]
  split
  · exact hu (units b)
  · exact units j

theorem setOutputs (h : s.RangeLaw) (b : Bay) (o : BayOutputs) : (s.setOutputs b o).RangeLaw := h

theorem setArbiter (h : s.RangeLaw) {a : Arbiter} (capacity : a.capacity = s.act.arbiter.capacity) :
    (s.setArbiter a).RangeLaw := h.withAct capacity id

theorem setPort (h : s.RangeLaw) (p : Port) {x : PortState} (hx : (s.port p).discards ≤ 255 → x.discards ≤ 255) :
    (s.setPort p x).RangeLaw := by
  refine h.withAct rfl (fun ⟨pulses, lines, slots, units, ports⟩ => ⟨pulses, lines, slots, units, fun j => ?_⟩)
  rw [table_set]
  split
  · exact hx (ports p.index)
  · exact ports j

theorem setLine (h : s.RangeLaw) (l : Line) {f : Filter} (hf : (s.act.lines[l]).run ≤ 7 → f.run ≤ 7) :
    (s.setLine l f).RangeLaw := by
  refine h.withAct rfl (fun ⟨pulses, lines, slots, units, ports⟩ => ⟨pulses, fun j => ?_, slots, units, ports⟩)
  rw [table_set]
  split
  · exact hf (lines l)
  · exact lines j

theorem setPulse (h : s.RangeLaw) (m : Position) {c : PulseChannel}
    (hc : (s.act.pulses[m.index]).filter.run ≤ 7 → (s.act.pulses[m.index]).total ≤ 65535 →
      c.filter.run ≤ 7 ∧ c.total ≤ 65535) : (s.setPulse m c).RangeLaw := by
  refine h.withAct rfl (fun ⟨pulses, lines, slots, units, ports⟩ => ⟨fun j => ?_, lines, slots, units, ports⟩)
  rw [table_set]
  split
  · obtain ⟨run, total⟩ := pulses m.index
    exact hc run total
  · exact pulses j

theorem setSlot (h : s.RangeLaw) (ch : Probe) {x : SampleSlot}
    (hx : (s.act.slots[ch]).age ≤ 65535 → x.age ≤ 65535) : (s.setSlot ch x).RangeLaw := by
  refine h.withAct rfl (fun ⟨pulses, lines, slots, units, ports⟩ => ⟨pulses, lines, fun j => ?_, units, ports⟩)
  rw [table_set]
  split
  · exact hx (slots ch)
  · exact slots j

theorem changeRecord (h : s.RangeLaw) (r : RecordRef) (c : Compartment) : (s.changeRecord r c).RangeLaw := by
  obtain ⟨v, frame⟩ := s.changeRecord_frame r c
  rw [frame]
  exact h

theorem transition (h : s.RangeLaw) (r : RecordRef) (expected : List CState) (f : Compartment → Compartment) :
    (s.transition r expected f).RangeLaw := by
  rcases s.transition_cases r expected f with ⟨c, -, -, taken⟩ | ⟨-, stands⟩
  · rw [taken]; exact h.changeRecord r _
  · rw [stands]; exact h

/-- A fold of moves that each keep the law keeps it. -/
theorem foldl {α : Type} (h : s.RangeLaw) {f : State → α → State} (hf : ∀ s x, s.RangeLaw → (f s x).RangeLaw)
    (xs : List α) : (xs.foldl f s).RangeLaw := by
  induction xs generalizing s with
  | nil => exact h
  | cons x xs ih => exact ih (hf s x h)

end State.RangeLaw

/-! ## The arbiter's capacity -/

@[simp] theorem Arbiter.returnShares_capacity (a : Arbiter) (n : Nat) : (a.returnShares n).capacity = a.capacity := by
  simp [Arbiter.returnShares]

@[simp] theorem Arbiter.leave_capacity (a : Arbiter) (r : RecordRef) : (a.leave r).capacity = a.capacity := by
  simp [Arbiter.leave]

@[simp] theorem Arbiter.join_capacity (a : Arbiter) (e : QueueEntry) : (a.join e).capacity = a.capacity := by
  simp [Arbiter.join]

@[simp] theorem Arbiter.setBlockLine_capacity (a : Arbiter) (l : Line) (member : Bool) :
    (a.setBlockLine l member).capacity = a.capacity := by simp [Arbiter.setBlockLine]

@[simp] theorem Arbiter.endRecovery_capacity (a : Arbiter) : a.endRecovery.capacity = a.capacity := by
  simp [Arbiter.endRecovery]

@[simp] theorem Arbiter.pressureSample_capacity (a : Arbiter) (minimum : Nat) (sample : Option Nat) :
    (a.pressureSample minimum sample).capacity = a.capacity := by simp [Arbiter.pressureSample]

@[simp] theorem Arbiter.setCapacity_capacity (a : Arbiter) (n : Nat) : (a.setCapacity n).capacity = n := by
  simp [Arbiter.setCapacity]

/-! ## The wash cycle -/

@[simp] theorem State.releaseLoop_units (s : State) (b : Bay) (r : RecordRef) (c : Compartment) :
    (s.releaseLoop b r c).act.units = s.act.units := by unfold State.releaseLoop; split <;> rfl

/-- A unit whose counts are put back to 0, its supply temperature as it was. -/
theorem WashUnit.InRange.cleared {u v : WashUnit} (h : u.InRange) (count : v.intervalCount = 0)
    (counter : v.endpointCounter = 0) (supply : v.supply = u.supply) : v.InRange := by
  obtain ⟨-, -, age⟩ := h
  exact ⟨by omega, by omega, supply ▸ age⟩

namespace State.RangeLaw

section

variable (h : s.RangeLaw) (b : Bay) (r : RecordRef) (c : Compartment)

include h

theorem leaveRunning (shares : Nat) : (s.leaveRunning b shares).RangeLaw :=
  (h.setArbiter (Arbiter.returnShares_capacity _ _)).setOutputs b _

theorem releaseLoop : (s.releaseLoop b r c).RangeLaw := by
  unfold State.releaseLoop
  split
  · exact h.leaveRunning b _
  · exact h.setArbiter (Arbiter.leave_capacity _ _)
  · exact h

theorem endWash (n : Note) : (s.endWash b r c n).RangeLaw := by
  refine ((h.releaseLoop b r c).setUnit b (fun unit => ?_)).changeRecord r _
  rw [State.releaseLoop_units] at unit
  exact unit.cleared rfl rfl rfl

theorem stopWash (n : Note) : (s.stopWash r c n).RangeLaw := by
  unfold State.stopWash
  split
  · exact h.endWash _ r c n
  · exact h.changeRecord r _

theorem enterQueued (p : Progress) (ph : Phase) : (s.enterQueued b r c p ph).RangeLaw := by
  refine State.RangeLaw.changeRecord (.setUnit (h.setArbiter (Arbiter.join_capacity _ _)) b ?_) r _
  exact id

/-- A phase completed: the bay's counts go back to 0 (R49, R84). -/
theorem completePhase (p : Progress) (ph : Phase) : (s.completePhase b r c p ph).RangeLaw := by
  have out := h.leaveRunning b p.sharesHeld
  unfold State.completePhase
  simp only
  split
  · refine (out.setUnit b (fun unit => ?_)).changeRecord r _
    exact unit.cleared rfl rfl rfl
  · refine (out.setUnit b (fun unit => ?_)).changeRecord r _
    exact unit.cleared rfl rfl rfl

/-- The expiry of one of a wash unit's timers (R44). -/
theorem expire (runs : Bool) {stopped : WashUnit} (hu : (s.act.units[b]).InRange → stopped.InRange) (x : CState)
    (n : Note) : (s.expire b runs stopped x n).RangeLaw := by
  have stops := h.setUnit b hu
  unfold State.expire
  split
  · split
    · exact stops
    · split
      · exact stops
      · split
        · exact h.endWash b _ _ n
        · exact stops
  · exact h

theorem handoverExpiry : (s.handoverExpiry b).RangeLaw := by
  refine h.expire b _ ?_ _ _
  exact id

theorem reEntryExpiry : (s.reEntryExpiry b).RangeLaw := by
  refine h.expire b _ ?_ _ _
  exact id

theorem holdExpiry : (s.holdExpiry b).RangeLaw := by
  refine h.expire b _ ?_ _ _
  exact id

omit b r c in
theorem takeGrant (e : QueueEntry) (backfill : Bool) (c : Compartment) (p : Progress) (ph : Phase) :
    (s.takeGrant e backfill c p ph).RangeLaw := by
  have granted : (s.setArbiter (s.act.arbiter.grantTaken e backfill)).RangeLaw := h.setArbiter rfl
  refine ((granted.setUnit e.bay (fun unit => ?_)).setOutputs e.bay _).changeRecord e.ref _
  exact unit.cleared rfl rfl rfl

theorem grantStep : s.grantStep.RangeLaw := by
  have refused : s.refuseGrant.RangeLaw := h.setArbiter rfl
  unfold State.grantStep
  split
  · exact refused
  next e backfill _ =>
    split
    · exact refused
    · split
      · split
        · exact h.takeGrant e backfill _ _ _
        · exact refused
      · exact refused

theorem startWashOn (x : Named) : (startWashOn b x s).1.RangeLaw := by
  unfold Machine.startWashOn
  split_ifs
  · exact h
  · exact h
  · exact h
  · split
    · exact h
    · exact h.enterQueued b _ _ _ _

omit b in
theorem phaseGoOn (x : Named) : (phaseGoOn x s).1.RangeLaw := by
  unfold Machine.phaseGoOn
  split
  · split
    · exact h
    · exact h.enterQueued _ _ _ _ _
  · exact h

theorem phaseTick : (s.phaseTick b).RangeLaw := by
  unfold State.phaseTick
  split
  · exact h
  · split <;> exact h

theorem phaseExpiry : (s.phaseExpiry b).RangeLaw := by
  unfold State.phaseExpiry
  split
  · exact h
  · split
    · exact h.endWash b _ _ _
    · exact h

theorem holdStep : (s.holdStep b).RangeLaw := by
  unfold State.holdStep
  simp only
  split
  · exact h
  · split
    · exact h
    · split
      · exact h
      · split
        · refine ((h.releaseLoop b _ _).setUnit b (fun unit => ?_)).changeRecord _ _
          rw [State.releaseLoop_units] at unit
          exact unit.cleared rfl rfl rfl
        · exact h

theorem resumeStep : (s.resumeStep b).RangeLaw := by
  unfold State.resumeStep
  simp only
  split
  · exact h
  · split
    · exact h
    · split
      · exact h
      · split_ifs
        · refine (h.setUnit b ?_).changeRecord _ _
          exact id
        · split
          · exact h.enterQueued b _ _ _ _
          · exact h
        · exact h

theorem closeInterval : (s.closeInterval b).RangeLaw := by
  unfold State.closeInterval
  simp only
  split
  · exact h
  next w _ =>
    split_ifs
    · exact h.completePhase b _ _ _ _
    · have written (c : Option Compartment) : (s.setRecord w.ref c).RangeLaw := h
      exact (written _).setUnit b (fun ⟨_, counter, age⟩ => ⟨Nat.zero_le _, counter, age⟩)
    · exact h

theorem bayPulse : (s.bayPulse b).RangeLaw := by
  unfold State.bayPulse
  simp only
  split
  · exact h
  · exact h.setUnit b (fun ⟨_, counter, age⟩ => ⟨Nat.min_le_right _ _, counter, age⟩)

/-- A sample's endpoint count is held at the phase's qualifying number, at most 8 (R28, R95). -/
theorem conductivitySample (hp : s.mainPower = true) (sample : Option Nat) :
    (s.conductivitySample b sample).RangeLaw := by
  unfold State.conductivitySample
  split
  · exact h
  next w hw =>
    split
    · exact h
    next e he =>
      obtain ⟨-, -, -, -, hph⟩ := State.of_runningAt hw
      obtain ⟨_, _, _, _, _, _, _, _, _, _, endpoint⟩ := State.inRange_of_phaseOf hph (s.washRanges h hp).phases
      obtain ⟨-, qualifying⟩ := endpoint e he
      have sampled : (s.setUnit b ((s.act.units[b]).sampled e s.ret.hysteresis sample)).RangeLaw :=
        h.setUnit b (fun ⟨count, counter, age⟩ => ⟨count, countAfter_le e _ _ _ (by omega) counter, age⟩)
      simp only
      split
      · exact sampled.completePhase b _ _ _ _
      · exact sampled

end

end State.RangeLaw

/-! ## Filling and lapsing -/

namespace State.RangeLaw

section

variable (h : s.RangeLaw)

include h

theorem lapse (r : RecordRef) : (s.lapse r).RangeLaw := h.transition r _ _

theorem lapseAll : s.lapseAll.RangeLaw := h.foldl (fun _ r h => h.lapse r) _

theorem timerCheck : s.timerCheck.RangeLaw := by
  unfold State.timerCheck
  split <;> exact h

theorem lapseStep (r : RecordRef) : (s.lapseStep r).RangeLaw := by
  unfold State.lapseStep
  split
  · refine State.RangeLaw.lapse ?_ r
    exact h
  · exact h

theorem fillStartOn (x : Named) (cargo preset : Nat) : (fillStartOn x cargo preset s).1.RangeLaw := by
  unfold Machine.fillStartOn
  split
  · exact h
  · split
    · exact h
    · split
      · split_ifs
        · exact h.lapse x.ref
        · exact h
        · exact h
        · refine State.RangeLaw.changeRecord ?_ x.ref _
          exact h
      · exact h

theorem fillEndOn (x : Named) (litres : Nat) : (fillEndOn x litres s).1.RangeLaw := by
  unfold Machine.fillEndOn
  split
  · refine State.RangeLaw.changeRecord ?_ x.ref _
    exact h
  · exact h

theorem fillAbortOn (x : Named) : (fillAbortOn x s).1.RangeLaw := by
  have idle : (s.setFillUnit FillUnit.idle).RangeLaw := h
  unfold Machine.fillAbortOn
  split
  · split
    · exact idle.changeRecord x.ref _
    · exact idle.changeRecord x.ref _
  · exact h

theorem rackPulse : s.rackPulse.RangeLaw := by
  unfold State.rackPulse
  split
  · exact h
  next r _ =>
    split
    · exact h
    · split
      next f _ _ =>
        simp only
        have joined (b : Bool) : (if b then s.joinOverfill else s).RangeLaw := by split <;> exact h
        split
        · exact (joined _).changeRecord r _
        · exact joined _
      · exact h

theorem stoppedStep : s.stoppedStep.RangeLaw := by
  unfold State.stoppedStep
  split
  · simp only
    split
    · exact h
    · refine State.RangeLaw.transition ?_ _ _ _
      exact h
  · exact h

end

end State.RangeLaw

/-! ## Filters, ages and samples -/

/-- A filter's run count stays below its filter figure (R107, R147). -/
theorem Filter.sample_run_le {f : Filter} {n : Nat} (hn : OneTwoFourEight n) (level : Level) :
    (f.sample n level).1.run ≤ 7 := by
  unfold Filter.sample
  split
  · exact Nat.zero_le _
  · split
    · exact Nat.zero_le _
    next h =>
      show f.run + 1 ≤ 7
      omega

/-- A powered part's pulse filter figures are among 1, 2, 4 and 8 (R174). -/
theorem State.RangeLaw.pulseFilter (h : s.RangeLaw) (hp : s.mainPower = true) (m : Position) :
    OneTwoFourEight (s.ret.pulseFilter m) := by
  obtain ⟨settings, -⟩ := h.numbers hp
  have hm := m.index.isLt
  obtain ⟨-, -, filters⟩ := settings ⟨12 + m.index.val, by omega⟩
  exact filters (by simp [isFilterSetting]; omega)

theorem ageOn_le (age : Nat) : ageOn age ≤ 65535 := Nat.min_le_right _ _

theorem totalOn_le {n : Nat} (h : n ≤ 65535) : totalOn n ≤ 65535 := by
  unfold totalOn
  split <;> omega

/-- A conversion's age is 0, or as it was after a faulty one (R103). -/
theorem SampleSlot.converted_age_le {x : SampleSlot} (h : x.age ≤ 65535) (ch : Probe) (code : Code) :
    (x.converted ch code).age ≤ 65535 := by
  unfold SampleSlot.converted
  split
  · exact Nat.zero_le _
  · exact h

namespace State.RangeLaw

section

variable (h : s.RangeLaw)

include h

theorem supplySample (sample : Option Nat) : (s.supplySample sample).RangeLaw := by
  unfold State.supplySample
  split
  · exact h
  next v =>
    refine h.withAct rfl (fun ⟨pulses, lines, slots, units, ports⟩ => ⟨pulses, lines, slots, fun b => ?_, ports⟩)
    obtain ⟨count, counter, -⟩ := units b
    simp only [mapTable_eq_map, Fin.getElem_fin, Vector.getElem_map]
    exact ⟨count, counter, fun x hx => by cases hx; exact Nat.zero_le _⟩

theorem deliverSample (hp : s.mainPower = true) (ch : Probe) (sample : Option Nat) :
    (s.deliverSample ch sample).RangeLaw := by
  unfold State.deliverSample
  split_ifs
  · exact h.supplySample sample
  · exact h.setArbiter (Arbiter.pressureSample_capacity _ _ _)
  · exact h.conductivitySample _ hp sample

theorem convert (hp : s.mainPower = true) (ch : Probe) (code : Code) : (s.convert ch code).RangeLaw := by
  unfold State.convert
  split
  · have moved : { s with act := { s.act with scanNext := ch + 1 } }.RangeLaw := h
    exact (moved.setSlot ch (fun age => SampleSlot.converted_age_le age ch code)).deliverSample hp ch _
  · exact h

theorem ageStep : s.ageStep.RangeLaw := by
  refine h.withAct rfl (fun ⟨pulses, lines, _, units, ports⟩ => ⟨pulses, lines, fun ch => ?_, fun b => ?_, ports⟩)
  · simp only [mapTable_eq_map, Fin.getElem_fin, Vector.getElem_map]
    exact ageOn_le _
  · obtain ⟨count, counter, -⟩ := units b
    simp only [mapTable_eq_map, Fin.getElem_fin, Vector.getElem_map]
    refine ⟨count, counter, fun x hx => ?_⟩
    obtain ⟨y, -, rfl⟩ := Option.map_eq_some_iff.mp hx
    exact ageOn_le _

theorem samplePulse (hp : s.mainPower = true) (m : Position) (level : Level) : (s.samplePulse m level).RangeLaw := by
  have run := Filter.sample_run_le (f := (s.act.pulses[m.index]).filter) (h.pulseFilter hp m) level
  unfold State.samplePulse
  simp only
  split
  · have counted := h.setPulse m (c := ⟨((s.act.pulses[m.index]).filter.sample (s.ret.pulseFilter m) level).1,
      totalOn (s.act.pulses[m.index]).total⟩) (fun _ total => ⟨run, totalOn_le total⟩)
    cases m with
    | bay b => exact counted.bayPulse b
    | rack => exact counted.rackPulse
  · exact h.setPulse m (fun _ total => ⟨run, total⟩)

theorem sweepStep (b : Bay) : (s.sweepStep b).RangeLaw := by
  unfold State.sweepStep
  simp only
  split <;> exact h

/-! ## Lines -/

theorem joinHold (p : Position) (l : Line) : (s.joinHold p l).RangeLaw := by
  unfold State.joinHold State.rackHeld
  simp only
  split
  · split <;> exact h
  · exact h

theorem setBlockLine (l : Line) (member : Bool) : (s.setBlockLine l member).RangeLaw :=
  h.setArbiter (Arbiter.setBlockLine_capacity _ _ _)

theorem lineAction (l : Line) (a : Action) : (s.lineAction l a).RangeLaw := by
  cases a with
  | note => exact h
  | holdBay b => exact h.joinHold (.bay b) l
  | holdAll => exact (((h.joinHold (.bay 0) l).joinHold (.bay 1) l).joinHold (.bay 2) l).joinHold (.bay 3) l
  | stopRack => exact h.joinHold .rack l
  | blockGrants => exact h.setBlockLine l true

theorem lineNotices (l : Line) (ports : PortSet) : (s.lineNotices l ports).RangeLaw := by
  refine h.foldl (fun s p h => ?_) allPorts
  split <;> exact h

theorem lineBecomesActive (l : Line) (e : Route) : (s.lineBecomesActive l e).RangeLaw := by
  unfold State.lineBecomesActive
  split
  · exact h
  · exact (h.lineAction l _).lineNotices l _

theorem sampleLine (hp : s.mainPower = true) (l : Line) (level : Level) : (s.sampleLine l level).RangeLaw := by
  obtain ⟨-, -, -, -, -, filters⟩ := h.numbers hp
  have sampled := h.setLine l (f := ((s.act.lines[l]).sample (s.ret.routes[l]).filterN level).1)
    (fun _ => Filter.sample_run_le (filters l) level)
  unfold State.sampleLine
  simp only
  split_ifs
  · exact sampled.lineBecomesActive l _
  · exact sampled.setBlockLine l false
  · exact sampled

theorem resumeAt (p : Position) : (resumeAt p s).1.RangeLaw := by
  unfold Machine.resumeAt
  split <;> exact h

theorem reroute (l : Line) {e : Route} (he : OneTwoFourEight e.filterN) : (s.reroute l e).RangeLaw := by
  have routed : (s.setRoute l e).RangeLaw := by
    refine h.withRet rfl rfl (fun ⟨settings, clock, low, high, programs, filters⟩ =>
      ⟨settings, clock, low, high, programs, fun j => ?_⟩)
    rw [table_set]
    split
    · exact he
    · exact filters j
  have trimmed : ((s.setRoute l e).trimPending l (s.ret.routes[l]).notify e.notify).RangeLaw := by
    refine routed.foldl (fun s p h => ?_) allPorts
    split <;> exact h
  have blocked (member : Bool) := trimmed.setBlockLine l member
  unfold State.reroute
  simp only
  split
  · exact (blocked _).lineBecomesActive l e
  · exact blocked _

end

end State.RangeLaw

end Sys2Proof.Machine
end

section
/-! # Every step keeps the law of the ranges -/

namespace Sys2Proof.Machine

variable {s : State}

/-! ## Settings, programs, the clock and the certificate counter -/

/-- A setting's range is not empty; a pulse filter's is 1 to 8 (R174). -/
theorem setting_ranges : ∀ i : Fin 25, settingLow i ≤ settingHigh i
    ∧ (isFilterSetting i = true → settingLow i = 1 ∧ settingHigh i = 8) := by decide

/-- The value stored is in the setting's range (R174, R175). -/
theorem clampSetting_inRange (i : Fin 25) (v : Nat) :
    settingLow i ≤ clampSetting i v ∧ clampSetting i v ≤ settingHigh i
      ∧ (isFilterSetting i = true → OneTwoFourEight (clampSetting i v)) := by
  obtain ⟨range, filter⟩ := setting_ranges i
  unfold clampSetting
  by_cases hf : isFilterSetting i = true
  · obtain ⟨low, high⟩ := filter hf
    simp only [low, high, hf, true_implies, OneTwoFourEight]
    split_ifs <;> simp
  · rw [if_neg hf]
    exact ⟨Nat.le_max_left _ _, by omega, fun h => absurd h hf⟩

/-- A setting stored in its range leaves the retained numbers in theirs (R174). -/
theorem Retained.NumbersInRange.setSetting {r : Retained} (h : r.NumbersInRange) (i : Fin 25) (v : Nat) :
    { r with settings := r.settings.set i (clampSetting i v) }.NumbersInRange := by
  obtain ⟨settings, rest⟩ := h
  refine ⟨fun j => ?_, rest⟩
  simp only [table_set]
  by_cases hj : j = i
  · subst hj
    simpa using clampSetting_inRange j v
  · simpa only [if_neg hj] using settings j

section

variable (i : Fin 25) (v : Nat)

@[simp] theorem State.settingEffect_ret : (s.settingEffect i v).ret = s.ret := by
  unfold State.settingEffect
  split
  · rfl
  · split
    · rfl
    · simp only
      split <;> rfl

@[simp] theorem State.settingEffect_mainPower : (s.settingEffect i v).mainPower = s.mainPower := by
  unfold State.settingEffect
  split
  · rfl
  · split
    · rfl
    · simp only
      split <;> rfl

/-- The arbiter takes setting 1 (R75). -/
theorem State.settingEffect_capacity :
    (s.settingEffect i v).act.arbiter.capacity = if 0 = i then v else s.act.arbiter.capacity := by
  unfold State.settingEffect
  split
  next hi => rw [if_pos (Fin.ext hi.symm), State.setArbiter_arbiter, Arbiter.setCapacity_capacity]
  next hi =>
    rw [if_neg fun e => hi (congrArg Fin.val e).symm]
    split
    · rfl
    · simp only
      split <;> rfl

theorem State.settingEffect_countersInRange (h : s.act.CountersInRange) :
    (s.settingEffect i v).act.CountersInRange := by
  unfold State.settingEffect
  split
  · exact h
  · split
    · exact h
    · simp only
      split <;> exact h

end

/-- The certificate counter stays in 1 to 999,999 (R119). -/
theorem nextCertificate_inRange {n : Nat} (h : n ≤ 999999) : 1 ≤ nextCertificate n ∧ nextCertificate n ≤ 999999 := by
  unfold nextCertificate maxCertificate
  split <;> omega

/-- A route entry read has one of the filter figures 1, 2, 4 and 8 (R148, R154). -/
theorem filterN_of_routeOf {mask polarity trigger action bay notify filterN : Byte} {e : Route}
    (h : routeOf mask polarity trigger action bay notify filterN = some e) : OneTwoFourEight e.filterN := by
  unfold routeOf at h
  split at h
  next hf =>
    obtain ⟨-, -, -, figure⟩ := hf
    split at h
    · cases h
      exact (isOneTwoFourEight_iff _).mp figure
    · cases h
  · cases h

namespace State.RangeLaw

section

variable (h : s.RangeLaw)

include h

/-- A setting stored with its effect: C follows setting 1 in the same step (R75, R175). -/
theorem storeSetting (i : Fin 25) (v : Nat) :
    ((s.storeSetting i (clampSetting i v)).settingEffect i (clampSetting i v)).RangeLaw := by
  obtain ⟨stored, powered⟩ := h
  refine ⟨fun hm => ?_, fun hp => ?_⟩
  · rw [State.settingEffect_ret] at hm ⊢
    exact Retained.NumbersInRange.setSetting (stored hm) i v
  · rw [State.settingEffect_mainPower] at hp
    obtain ⟨valid, copy, counters⟩ := powered hp
    rw [State.settingEffect_ret, State.settingEffect_capacity]
    have first : (s.storeSetting i (clampSetting i v)).ret.loopCapacity
        = if 0 = i then clampSetting i v else s.ret.loopCapacity := table_set s.ret.settings i 0 _
    have copied : (s.storeSetting i (clampSetting i v)).act.arbiter.capacity = s.ret.loopCapacity := copy
    exact ⟨valid, by rw [first, copied], State.settingEffect_countersInRange i _ counters⟩

theorem setProgram (k : ProgramNo) {phs : List Phase} (length : phs.length ≤ 8) (inRange : ∀ ph ∈ phs, ph.InRange) :
    (s.setProgram k phs).RangeLaw := by
  refine h.withRet rfl rfl (fun ⟨settings, clock, low, high, programs, filters⟩ =>
    ⟨settings, clock, low, high, fun j => ?_, filters⟩)
  rw [table_set]
  split
  · exact ⟨length, inRange⟩
  · exact programs j

theorem setClockTo {reading : Nat} (hr : reading ≤ 4294967295) : (s.setClockTo reading).RangeLaw :=
  h.withRet rfl rfl (fun ⟨settings, _, rest⟩ => ⟨settings, hr, rest⟩)

theorem clockSecond : s.clockSecond.RangeLaw := by
  unfold State.clockSecond
  split
  · exact h.withRet rfl rfl (fun ⟨settings, _, rest⟩ => ⟨settings, Nat.min_le_right _ _, rest⟩)
  · exact h

theorem advanceCertificate : s.advanceCertificate.RangeLaw := by
  refine h.withRet rfl rfl (fun ⟨settings, clock, _, high, rest⟩ => ?_)
  obtain ⟨one, most⟩ := nextCertificate_inRange high
  exact ⟨settings, clock, one, most, rest⟩

/-! ## Requests -/

theorem setIntentOn (x : Named) (intent : Nat) : (setIntentOn x intent s).1.RangeLaw := by
  unfold Machine.setIntentOn
  split
  · exact h
  · split
    · exact h
    · split
      · exact h
      · exact h
      · exact h
      · simp only [State.retarget]
        split
        · exact h
        · exact h.changeRecord x.ref _

theorem inspectPassOn (x : Named) (inspector : Nat) : (inspectPassOn x inspector s).1.RangeLaw := by
  unfold Machine.inspectPassOn
  split_ifs
  · exact h
  · exact h
  · split
    · exact h.advanceCertificate.changeRecord x.ref _
    · exact h

theorem inspectFailOn (x : Named) (flag : Nat) : (inspectFailOn x flag s).1.RangeLaw := by
  unfold Machine.inspectFailOn
  split_ifs
  · exact h
  · exact h
  · exact h.changeRecord x.ref _

theorem admitTanker (i : Slot) (token : List Byte) (cs : List (Nat × List ClassNo)) :
    (s.admitTanker i token cs).RangeLaw := by
  unfold State.admitTanker
  simp only
  obtain ⟨pool, notices, frame, -, -⟩ := State.admitRecords_frame { s with ret := { s.ret with
    tankers := s.ret.tankers.set i (some ⟨token, s.ret.clock, s.ret.freeList.take cs.length, none⟩)
    freeList := s.ret.freeList.drop cs.length } } 0 ((s.ret.freeList.take cs.length).zip cs)
  rw [frame]
  exact h

section

variable (p : Port) (body : List Byte)

theorem ownAckLine : (ownAckLine p body s).1.RangeLaw := by
  unfold Machine.ownAckLine
  split
  · split
    · exact h
    · split <;> exact h
  · exact h

theorem ownResume : (ownResume p body s).1.RangeLaw := by
  unfold Machine.ownResume
  split
  · exact h.resumeAt _
  · split
    · exact h
    · exact h.resumeAt _
  · exact h

theorem ownAdmit : (ownAdmit p body s).1.RangeLaw := by
  unfold Machine.ownAdmit
  split
  · exact h
  · split
    · exact h
    · split
      · exact h
      · split
        · split
          · exact h
          · split
            · exact h
            · split
              · exact h
              · split
                · exact h
                · exact h.admitTanker _ _ _
        · exact h

theorem ownDepart : (ownDepart p body s).1.RangeLaw := by
  unfold Machine.ownDepart
  split
  · split
    · exact h
    · split_ifs
      · exact h
      · exact h
      · rw [State.depart_eq]
        exact h
  · exact h

theorem ownDock : (ownDock p body s).1.RangeLaw := by
  unfold Machine.ownDock
  split
  · exact h
  · split
    · exact h
    · split
      · exact h
      · unfold dockAt
        split_ifs <;> exact h

theorem ownUndock : (ownUndock p body s).1.RangeLaw := by
  unfold Machine.ownUndock
  split
  · exact h
  · split
    · exact h
    · split <;> exact h

theorem ownSetIntent : (ownSetIntent p body s).1.RangeLaw := by
  unfold Machine.ownSetIntent
  split
  · split
    · exact h
    · exact h.setIntentOn _ _
  · exact h

theorem ownEmptied : (ownEmptied p body s).1.RangeLaw := by
  unfold Machine.ownEmptied
  split
  · split
    · exact h
    · split
      · exact h
      · exact h.changeRecord _ _
  · exact h

theorem ownVoidRelease : (ownVoidRelease p body s).1.RangeLaw := by
  unfold Machine.ownVoidRelease
  split
  · split
    · exact h
    · split
      · exact h
      · exact h.changeRecord _ _
  · exact h

theorem ownCancelWash : (ownCancelWash p body s).1.RangeLaw := by
  unfold Machine.ownCancelWash
  split
  · split
    · exact h
    · split
      · exact h.stopWash _ _ _
      · exact h
  · exact h

theorem ownAbortWash : (ownAbortWash p body s).1.RangeLaw := by
  unfold Machine.ownAbortWash
  split
  · split
    · exact h
    · split
      · exact h.stopWash _ _ _
      · exact h
  · exact h

theorem ownStartWash : (ownStartWash p body s).1.RangeLaw := by
  unfold Machine.ownStartWash
  split
  · split
    · exact h
    · exact h.startWashOn _ _
  · exact h

theorem ownPhaseGo : (ownPhaseGo p body s).1.RangeLaw := by
  unfold Machine.ownPhaseGo
  split
  · split
    · exact h
    · exact h.phaseGoOn _
  · exact h

theorem ownInspectPass : (ownInspectPass p body s).1.RangeLaw := by
  unfold Machine.ownInspectPass
  split
  · split
    · exact h
    · exact h.inspectPassOn _ _
  · exact h

theorem ownInspectFail : (ownInspectFail p body s).1.RangeLaw := by
  unfold Machine.ownInspectFail
  split
  · split
    · exact h
    · exact h.inspectFailOn _ _
  · exact h

theorem ownFillStart : (ownFillStart p body s).1.RangeLaw := by
  unfold Machine.ownFillStart
  split
  · split
    · exact h
    · exact h.fillStartOn _ _ _
  · exact h

theorem ownFillEnd : (ownFillEnd p body s).1.RangeLaw := by
  unfold Machine.ownFillEnd
  split
  · split
    · exact h
    · exact h.fillEndOn _ _
  · exact h

theorem ownFillAbort : (ownFillAbort p body s).1.RangeLaw := by
  unfold Machine.ownFillAbort
  split
  · split
    · exact h
    · exact h.fillAbortOn _
  · exact h

theorem ownWriteClass : (ownWriteClass p body s).1.RangeLaw := by
  unfold Machine.ownWriteClass
  split
  · split
    · exact h
    · split
      · split <;> exact h
      · split <;> exact h
  · exact h

/-- The phases stored are those read, at most 8 and each in range (R29). -/
theorem ownWriteProgram : (ownWriteProgram p body s).1.RangeLaw := by
  unfold Machine.ownWriteProgram
  split
  · split_ifs with _ count
    · exact h
    · exact h
    · split
      next phs _ read =>
        obtain ⟨length, inRange⟩ := of_phasesOfBytes read
        split
        · exact h
        · exact h.setProgram _ (by omega) inRange
      · exact h
  · exact h

theorem ownWriteFollow : (ownWriteFollow p body s).1.RangeLaw := by
  unfold Machine.ownWriteFollow
  split
  · split
    · exact h
    · split <;> exact h
  · exact h

theorem ownWriteRoute : (ownWriteRoute p body s).1.RangeLaw := by
  unfold Machine.ownWriteRoute
  split
  · split
    next read =>
      split
      · exact h
      · exact h.reroute _ (filterN_of_routeOf read)
    · exact h
  · exact h

theorem ownWriteSetting : (ownWriteSetting p body s).1.RangeLaw := by
  unfold Machine.ownWriteSetting
  split
  · split
    · exact h
    · exact h.storeSetting _ _
  · exact h

theorem ownReadRoute : (ownReadRoute p body s).1.RangeLaw := by
  unfold Machine.ownReadRoute
  split
  · split <;> exact h
  · exact h

theorem ownSetClock : (ownSetClock p body s).1.RangeLaw := by
  unfold Machine.ownSetClock
  split
  next c1 c2 c3 c4 =>
    have bound : number [c1, c2, c3, c4] < 256 ^ 4 := number_lt _
    exact h.setClockTo (by omega)
  · exact h

theorem ownOpenYard : (ownOpenYard p body s).1.RangeLaw := by
  unfold Machine.ownOpenYard
  split
  · exact h
  · have opened : s.openMode.RangeLaw := h.withAct (Arbiter.endRecovery_capacity _) id
    exact opened.lapseAll

/-- The owner of each kind keeps the law. -/
theorem owner (k : Kind) : (owner k p body s).1.RangeLaw := by
  by_cases hk : k.reports = true
  · rw [owner_of_reports p body hk]
    exact h
  · cases k <;> try exact absurd rfl hk
    case events => exact h
    case ackLine => exact h.ownAckLine p body
    case resume => exact h.ownResume p body
    case admitTanker => exact h.ownAdmit p body
    case depart => exact h.ownDepart p body
    case setIntent => exact h.ownSetIntent p body
    case emptied => exact h.ownEmptied p body
    case voidRelease => exact h.ownVoidRelease p body
    case cancelWash => exact h.ownCancelWash p body
    case dock => exact h.ownDock p body
    case undock => exact h.ownUndock p body
    case startWash => exact h.ownStartWash p body
    case phaseGo => exact h.ownPhaseGo p body
    case abortWash => exact h.ownAbortWash p body
    case inspectPass => exact h.ownInspectPass p body
    case inspectFail => exact h.ownInspectFail p body
    case fillStart => exact h.ownFillStart p body
    case fillEnd => exact h.ownFillEnd p body
    case fillAbort => exact h.ownFillAbort p body
    case writeClass => exact h.ownWriteClass p body
    case writeProgram => exact h.ownWriteProgram p body
    case writeFollow => exact h.ownWriteFollow p body
    case writeRoute => exact h.ownWriteRoute p body
    case writeSetting => exact h.ownWriteSetting p body
    case readRoute => exact h.ownReadRoute p body
    case setClock => exact h.ownSetClock p body
    case openYard => exact h.ownOpenYard p body
    case yardReset => exact h

end

/-! ### Through the port -/

/-- A request taken: what its owner leaves, with the answer being sent (R163, R164). -/
theorem take (p : Port) (f : Frame) : (s.take p f).RangeLaw := by
  have served : (serve p f s).1.RangeLaw := by
    unfold serve
    split
    · exact h
    · split
      · exact h
      · exact h.owner p f.body _
  exact served.setPort p id

/-- A discard count is held at 255 (R166). -/
theorem discard (p : Port) : (s.discard p).RangeLaw := h.setPort p (fun _ => Nat.min_le_right _ _)

theorem frameCompletes (p : Port) (f : Frame) : (s.frameCompletes p f).RangeLaw := by
  unfold State.frameCompletes
  split_ifs
  · exact h.discard p
  · exact h.discard p
  · exact h.setPort p id
  · exact h.take p f

theorem answerSent (p : Port) : (s.answerSent p).RangeLaw := by
  unfold State.answerSent
  split
  · exact h
  · split
    · exact h.setPort p id
    · split
      · exact h.setPort p id
      · split
        · exact h.setPort p id
        · refine State.RangeLaw.take (h.setPort p ?_) p _
          exact id

theorem setReceiver (p : Port) (x : Receiver) : (s.setReceiver p x).RangeLaw := h.setPort p id

theorem receiveByte (p : Port) (b : Byte) (err : Bool) : (s.receiveByte p b err).RangeLaw := by
  unfold State.receiveByte
  split
  · split
    · exact h.setReceiver p _
    · exact h
  · split
    · exact (h.setReceiver p _).discard p
    · split
      · exact (h.setReceiver p _).discard p
      · exact h.setReceiver p _
      · exact (h.setReceiver p _).frameCompletes p _

theorem gap (p : Port) : (s.gap p).RangeLaw := by
  unfold State.gap
  split
  · exact h
  · exact (h.setReceiver p _).discard p

end

end State.RangeLaw

/-! ## The starts and the losses -/

/-- Every counter starts in its range (R65, R106, R110, R145, R167). -/
theorem Active.start_countersInRange (r : Retained) (changed : RefSet) :
    (Active.start r changed).CountersInRange := by
  simp [Active.CountersInRange, Active.start, PulseChannel.start, SampleSlot.start, WashUnit.start, PortState.start,
    mapTable_eq_map]

namespace State.RangeLaw

/-- The step of R170, made where the marker is valid: the arbiter takes its capacity from setting 1 (R82). -/
theorem recover (h : s.RangeLaw) (hm : s.ret.markerValid = true) : s.recover.RangeLaw := by
  obtain ⟨stored, -⟩ := h
  exact ⟨stored, fun _ => ⟨hm, rfl, Active.start_countersInRange _ _⟩⟩

/-- The cold start leaves what a reset does (R169). -/
theorem coldStart (s : State) : s.coldStart.RangeLaw := resetKeepsEveryLaw.ranges

theorem losePower (h : s.RangeLaw) : s.losePower.RangeLaw := by
  have ⟨stored, _⟩ := h
  unfold State.losePower
  split
  · exact ⟨stored, fun hp => by cases hp⟩
  · exact h

/-- The backup supply goes while main power is off: neither half of the law has its premise (R169). -/
theorem loseBackup (h : s.RangeLaw) : s.loseBackup.RangeLaw := by
  unfold State.loseBackup
  split
  · exact h
  next off => exact ⟨fun hm => (by cases hm), fun hp => absurd hp off⟩

/-! ## Every step keeps the law -/

/-- The part does nothing without main power (R168). -/
theorem whenPowered (h : s.RangeLaw) {f : State → State} (hf : s.mainPower = true → (f s).RangeLaw) :
    (whenPowered s f).RangeLaw := by
  unfold Machine.whenPowered
  split
  next hp => exact hf hp
  · exact h

/-- Every command completes and keeps the law. -/
theorem exec (h : s.RangeLaw) (i : Instr) : ∃ t, exec i s = .next t ∧ t.RangeLaw := by
  cases hi : i.request? with
  | some q =>
    rw [← requestOf_of_request hi]
    exact ⟨_, exec_requestOf _ _ _ _ s, h.whenPowered (fun _ => h.frameCompletes _ _)⟩
  | none =>
    cases i with
    | yardResetEffect =>
      refine ⟨_, rfl, h.whenPowered (fun hp => ?_)⟩
      split
      · exact h
      · exact h.recover (h.marker hp)
    | coldStart =>
      refine ⟨_, rfl, ?_⟩
      split
      · exact State.RangeLaw.coldStart s
      · exact h
    | powerReturn =>
      refine ⟨_, rfl, ?_⟩
      split
      next valid => exact h.recover valid.2
      · exact h
    | mainPowerLoss => exact ⟨_, rfl, h.losePower⟩
    | requestByteReceived p b err => exact ⟨_, rfl, h.whenPowered (fun _ => h.receiveByte p b err)⟩
    | interByteTimeout p => exact ⟨_, rfl, h.whenPowered (fun _ => h.gap p)⟩
    | answerSendComplete p => exact ⟨_, rfl, h.whenPowered (fun _ => h.answerSent p)⟩
    | scanConversion ch code => exact ⟨_, rfl, h.whenPowered (fun hp => h.convert hp ch code)⟩
    | pulseSample m level => exact ⟨_, rfl, h.whenPowered (fun hp => h.samplePulse hp m level)⟩
    | lineSample l level => exact ⟨_, rfl, h.whenPowered (fun hp => h.sampleLine hp l level)⟩
    | grant => exact ⟨_, rfl, h.whenPowered (fun _ => h.grantStep)⟩
    | accountingIntervalClose b => exact ⟨_, rfl, h.whenPowered (fun _ => h.closeInterval b)⟩
    | phaseTimerTick b => exact ⟨_, rfl, h.whenPowered (fun _ => h.phaseTick b)⟩
    | phaseTimerExpiry b => exact ⟨_, rfl, h.whenPowered (fun _ => h.phaseExpiry b)⟩
    | handoverTimerExpiry b => exact ⟨_, rfl, h.whenPowered (fun _ => h.handoverExpiry b)⟩
    | reEntryTimerExpiry b => exact ⟨_, rfl, h.whenPowered (fun _ => h.reEntryExpiry b)⟩
    | holdTimerExpiry b => exact ⟨_, rfl, h.whenPowered (fun _ => h.holdExpiry b)⟩
    | washHold b => exact ⟨_, rfl, h.whenPowered (fun _ => h.holdStep b)⟩
    | washResume b => exact ⟨_, rfl, h.whenPowered (fun _ => h.resumeStep b)⟩
    | fillStoppedMark => exact ⟨_, rfl, h.whenPowered (fun _ => h.stoppedStep)⟩
    | sweepTick b => exact ⟨_, rfl, h.whenPowered (fun _ => h.sweepStep b)⟩
    | releaseTimerCheck => exact ⟨_, rfl, h.whenPowered (fun _ => h.timerCheck)⟩
    | releaseLapse r => exact ⟨_, rfl, h.whenPowered (fun _ => h.lapseStep r)⟩
    | yardClockSecond => exact ⟨_, rfl, h.clockSecond⟩
    | backupSupplyLoss => exact ⟨_, rfl, h.loseBackup⟩
    | ageMillisecond => exact ⟨_, rfl, h.whenPowered (fun _ => h.ageStep)⟩
    | _ => cases hi

end State.RangeLaw

/-- Settles O13: an idle step changes nothing, and every command keeps the law. -/
theorem stepKeepsRangeLaw : Obligations.StepKeepsRangeLaw := by
  intro s t h hstep
  unfold step at hstep
  split at hstep
  · cases hstep
    exact h
  next i rest _ =>
    have waiting : { s with pending := rest }.RangeLaw := h
    obtain ⟨u, hu, law⟩ := waiting.exec i
    cases hu.symm.trans hstep
    exact law

end Sys2Proof.Machine
end

section
/-! # The cargo rules' requests (R22, R24, R26, R27, R29, R30, R31) -/

namespace Sys2Proof.Machine

variable {s : State}

/-! ## Fields of a body -/

theorem classOf_eq_some {n : Nat} {k : ClassNo} (h : n = k.val + 1) : classOf n = some k := by
  subst h
  simp [classOf]

theorem programOf_eq_some {n : Nat} {k : ProgramNo} (h : n = k.val + 1) : programOf n = some k := by
  subst h
  simp [programOf]

/-- A number outside 1 to 16 is no program (R28). -/
theorem programOf_eq_none_iff (n : Nat) : programOf n = none ↔ n = 0 ∨ 16 < n := by
  simp [programOf]
  omega

theorem groupOf_eq_some {n : Nat} {g : Group} (h : n = g.val) : groupOf n = some g := by
  subst h
  simp [groupOf]
  omega

/-- A number above 11 is no residue group (R25). -/
theorem groupOf_eq_none_iff (n : Nat) : groupOf n = none ↔ 11 < n := by simp [groupOf]

theorem gradeOf_eq_none {n : Nat} (h : 3 < n) : gradeOf n = none := by
  obtain ⟨m, rfl⟩ := Nat.exists_eq_add_of_lt h
  rw [show 3 + m + 1 = m + 4 by omega]
  rfl

theorem cellOf_eq_none {n : Nat} (h : 3 < n) : cellOf n = none := by
  obtain ⟨m, rfl⟩ := Nat.exists_eq_add_of_lt h
  rw [show 3 + m + 1 = m + 4 by omega]
  rfl

/-- An office's kind is answered FORMAT where its length does not pass (R165). -/
theorem exec_office_format (ready : s.Ready .office) {k : Kind} {e : Entry} (he : catalogue .office k = some e)
    (tag : Byte) {body : List Byte} (hl : e.lengthOk body.length = false) (h240 : body.length ≤ 240) :
    exec (requestOf k .office tag body) s = .next (s.replies .office k tag .format []) := by
  refine exec_refused ready k tag body h240 ?_
  simp [commonCheck, he, hl]

/-! ## WRITE-CLASS (R22) -/

/-- A record in use names the class (R22). -/
theorem State.classInUse_iff (k : ClassNo) : s.anyRecord (Compartment.names k) = true ↔ s.ClassInUse k := by
  simp only [State.anyRecord_iff, Compartment.names_iff]
  exact Iff.rfl

/-- WRITE-CLASS answers RANGE for a class, a grade, a group or a program out of range (R22). -/
theorem ownWriteClass_of_outOfRange (p : Port) {c g grp prog : Byte}
    (bad : c.toNat = 0 ∨ 48 < c.toNat ∨ 3 < g.toNat
      ∨ (g.toNat ≠ 0 ∧ (11 < grp.toNat ∨ prog.toNat = 0 ∨ 16 < prog.toNat))) :
    ownWriteClass p [c, g, grp, prog] s = (s, refuse .range) := by
  cases hc : classOf c.toNat with
  | none => simp [ownWriteClass, hc]
  | some k =>
    have inRange : ¬ (c.toNat = 0 ∨ 48 < c.toNat) := by simp [← classOf_eq_none_iff, hc]
    have g0 : g.toNat ≠ 0 := by omega
    have unread : gradeOf g.toNat = none ∨ groupOf grp.toNat = none ∨ programOf prog.toNat = none := by
      rw [groupOf_eq_none_iff, programOf_eq_none_iff]
      by_cases hg : 3 < g.toNat
      · exact .inl (gradeOf_eq_none hg)
      · omega
    simp only [ownWriteClass, hc, if_neg g0]
    rcases unread with h | h | h <;> rw [h]
    · cases gradeOf g.toNat <;> rfl
    · cases gradeOf g.toNat <;> cases groupOf grp.toNat <;> rfl

/-- Settles O26: the owner's answers, and a class in use by `State.classInUse_iff`. -/
theorem writeClassWritesTheEntry : Obligations.WriteClassWritesTheEntry := by
  intro tag c g grp prog s ready
  have answered {t : State} {r : Reply} (ho : ownWriteClass .office [c, g, grp, prog] s = (t, r)) :
      exec (.writeClass .office tag [c, g, grp, prog]) s = .next (t.replies .office .writeClass tag r.code r.body) :=
    exec_office (k := .writeClass) ready rfl rfl tag rfl (by simp) ho
  refine ⟨fun body hl h240 => exec_office_format (k := .writeClass) (e := entryOf 4 true) ready rfl tag ?_ h240,
    fun bad => answered (ownWriteClass_of_outOfRange _ bad), fun k hk => ?_⟩
  · simpa [Entry.lengthOk, entryOf] using hl
  · have named := classOf_eq_some hk
    refine ⟨fun hg used => answered (r := refuse .busy) ?_, fun hg free => answered (r := okay []) ?_,
      fun grade group program hg hgrp hprog => answered (r := okay []) ?_⟩
    · simp [ownWriteClass, named, hg, (State.classInUse_iff k).mpr used]
    · have : s.anyRecord (Compartment.names k) = false := by
        rwa [Bool.eq_false_iff, Ne, State.classInUse_iff]
      simp only [ownWriteClass, named, hg, this]
      rfl
    · have graded : g.toNat ≠ 0 ∧ gradeOf g.toNat = some grade := by
        rw [hg]; cases grade <;> exact ⟨by decide, rfl⟩
      simp only [ownWriteClass, named, if_neg graded.1, graded.2, groupOf_eq_some hgrp, programOf_eq_some hprog]
      rfl

/-! ## The follow matrix (R26, R27) -/

/-- The byte of a cell (R26). -/
def Cell.byte (x : Cell) : Byte := match x with | .noWash => 0#8 | .wash => 1#8 | .deep => 2#8 | .barred => 3#8

theorem cellOf_byte (x : Cell) : cellOf x.byte.toNat = some x := by cases x <;> rfl

theorem byte1_cellCode (x : Cell) : byte1 x.code = [x.byte] := by cases x <;> rfl

/-- A row is read back from its cells' bytes (R26). -/
theorem cellRow_bytes (row : Vector Cell 12) : cellRow (row.toList.map Cell.byte) = some row := by
  have read : (row.toList.map Cell.byte).mapM (fun b => cellOf b.toNat) = some row.toList := by
    rw [mapM_eq_some_iff, List.forall₂_map_left_iff, List.forall₂_same]
    exact fun x _ => cellOf_byte x
  simp only [cellRow, read]
  rw [dif_pos row.length_toList]
  rfl

/-- No row is read where a cell is out of range (R26). -/
theorem cellRow_eq_none {cells : List Byte} (h : ∃ b ∈ cells, 3 < b.toNat) : cellRow cells = none := by
  have unread : cells.mapM (fun b => cellOf b.toNat) = none := by
    obtain ⟨b, hb, h3⟩ := h
    exact mapM_eq_none_iff.mpr ⟨b, hb, cellOf_eq_none h3⟩
  simp [cellRow, unread]

/-! ## READ-CLASS (R24) -/

/-- The records in use that satisfy a test are counted by their references. -/
theorem State.countRecords_eq (s : State) {f : Compartment → Bool} {g : RecordRef → Bool}
    (h : ∀ r, g r = (s.ret.pool[r]).any f) : s.countRecords f = (List.finRange 64).countP g := by
  have byReference : s.ret.pool.toList = (List.finRange 64).map (fun r => s.ret.pool[r]) :=
    List.ext_getElem (by simp) (fun _ _ _ => by simp)
  rw [State.countRecords, byReference, List.countP_map, funext h]
  refine List.countP_congr fun r _ => ?_
  simp only [Function.comp_apply]
  cases s.ret.pool[r] <;> rfl

/-- A record names a class in its history, its intent or its release (R24). -/
theorem Compartment.names_eq_decide (k : ClassNo) (c : Compartment) :
    c.names k = decide (k ∈ c.history ∨ c.intent = some k ∨ c.release.map (·.releasedFor) = some k) := by
  rw [Bool.eq_iff_iff, Compartment.names_iff, decide_eq_true_iff]
  simp

/-- Settles O27: a row's bytes are its cells' (`cellRow_bytes`), and the records that name a class are counted by their
references (`State.countRecords_eq`). -/
theorem followRowsAndClassReads : Obligations.FollowRowsAndClassReads := by
  intro tag f s ready
  have wrote {cells : List Byte} (hl : cells.length = 12) {t : State} {r : Reply}
      (ho : ownWriteFollow .office (f :: cells) s = (t, r)) :
      exec (.writeFollow .office tag (f :: cells)) s = .next (t.replies .office .writeFollow tag r.code r.body) :=
    exec_office (k := .writeFollow) (e := entryOf 13 true) ready rfl rfl tag (by simp [Entry.lengthOk, entryOf, hl])
      (by simp [hl]) ho
  have readRow {r : Reply} (ho : ownReadFollow .office [f] s = (s, r)) :
      exec (.readFollow .office tag [f]) s = .next (s.replies .office .readFollow tag r.code r.body) :=
    exec_office (k := .readFollow) ready rfl rfl tag rfl (by simp) ho
  have readEntry {r : Reply} (ho : ownReadClass .office [f] s = (s, r)) :
      exec (.readClass .office tag [f]) s = .next (s.replies .office .readClass tag r.code r.body) :=
    exec_office (k := .readClass) ready rfl rfl tag rfl (by simp) ho
  refine ⟨fun body hl h240 => exec_office_format (k := .writeFollow) (e := entryOf 13 true) ready rfl tag ?_ h240,
    fun cells hl bad => wrote (r := refuse .range) hl ?_, fun g row hg => wrote (r := okay []) ?_ ?_,
    fun hf => readRow (r := refuse .range) ?_, fun g hg => readRow (r := okay _) ?_,
    fun hf => readEntry (r := refuse .range) ?_, fun k hk => readEntry (r := okay _) ?_⟩
  · simpa [Entry.lengthOk, entryOf] using hl
  · have unread : groupOf f.toNat = none ∨ cellRow cells = none :=
      bad.imp (groupOf_eq_none_iff _).mpr cellRow_eq_none
    simp only [ownWriteFollow, hl, ne_eq, not_true, if_false]
    rcases unread with h | h <;> rw [h]
    cases groupOf f.toNat <;> rfl
  · simp
  · have length : (row.toList.map Cell.byte).length = 12 := by simp
    change ownWriteFollow .office (f :: row.toList.map Cell.byte) s = _
    simp only [ownWriteFollow, length, ne_eq, not_true, if_false, groupOf_eq_some hg, cellRow_bytes]
  · simp [ownReadFollow, (groupOf_eq_none_iff _).mpr hf]
  · have bytes : (s.ret.follow[g]).toList.flatMap (fun x => byte1 x.code)
        = (s.ret.follow[g]).toList.map Cell.byte := by
      simp only [byte1_cellCode, List.map_eq_flatMap]
    simp only [ownReadFollow, groupOf_eq_some hg, bytes]
    rfl
  · simp [ownReadClass, (classOf_eq_none_iff _).mpr hf]
  · simp only [ownReadClass, classOf_eq_some hk]
    refine congrArg (fun count => (s, okay (_ ++ byte1 count))) (s.countRecords_eq fun r => ?_)
    cases s.ret.pool[r] with
    | none => rfl
    | some c => exact (c.names_eq_decide k).symm

/-! ## WRITE-PROGRAM and READ-PROGRAM (R29, R30, R31) -/

/-- A record washes under a program (R29). -/
theorem Compartment.washesUnder_iff (k : ProgramNo) (c : Compartment) : c.washesUnder k = true ↔ c.Washing k := by
  simp only [Compartment.washesUnder, Compartment.Washing, Bool.and_eq_true, beq_iff_eq]
  cases c.state <;> simp [CState.isWash]

theorem Compartment.washesUnder_eq_decide (k : ProgramNo) (c : Compartment) :
    c.washesUnder k = decide (c.Washing k) := by
  rw [Bool.eq_iff_iff, Compartment.washesUnder_iff, decide_eq_true_iff]

/-- A record in use washes under the program (R29). -/
theorem State.anyWashing_iff (k : ProgramNo) :
    s.anyRecord (Compartment.washesUnder k) = true ↔ ∃ r : RecordRef, ∃ c ∈ s.ret.pool[r], c.Washing k := by
  simp only [State.anyRecord_iff, Compartment.washesUnder_iff]
  exact Iff.rfl

/-- WRITE-PROGRAM answers RANGE for a program, a count or a phase out of range (R29). -/
theorem ownWriteProgram_of_outOfRange (p : Port) {prog n : Byte} {rest : List Byte} (hl : rest.length = 18 * n.toNat)
    (bad : prog.toNat = 0 ∨ 16 < prog.toNat ∨ 8 < n.toNat
      ∨ ∃ i < n.toNat, BadPhase ((rest.drop (18 * i)).take 18)) :
    ownWriteProgram p (prog :: n :: rest) s = (s, refuse .range) := by
  simp only [ownWriteProgram, hl, ne_eq, not_true, if_false]
  by_cases h8 : 8 < n.toNat
  · rw [if_pos h8]
  · have unread : programOf prog.toNat = none ∨ phasesOfBytes n.toNat rest = none := by
      rw [programOf_eq_none_iff]
      rcases bad with bad | bad | bad | ⟨i, hi, bad⟩
      · exact .inl (.inl bad)
      · exact .inl (.inr bad)
      · exact absurd bad h8
      · exact .inr (phasesOfBytes_eq_none hi (phaseOfBytes_eq_none bad))
    rw [if_neg h8]
    rcases unread with h | h <;> rw [h]
    cases programOf prog.toNat <;> rfl

/-- The body of a WRITE-PROGRAM as sent: the program, the phase count, and the phases, each with the bytes that stand
for the limit and the qualifying number where it has no endpoint. -/
abbrev programBody (prog n : Byte) (sent : List (Phase × Byte × Byte × Byte)) : List Byte :=
  prog :: n :: sent.flatMap (fun x => x.1.sentBytes x.2.1 x.2.2.1 x.2.2.2)

/-- The phases sent take 18 bytes each (2.3). -/
theorem length_sentPhases (sent : List (Phase × Byte × Byte × Byte)) :
    (sent.flatMap (fun x => x.1.sentBytes x.2.1 x.2.2.1 x.2.2.2)).length = 18 * sent.length := by
  simp [List.length_flatMap, Phase.length_sentBytes, Nat.mul_comm]

/-- WRITE-PROGRAM answers BUSY while a record washes under the program, and otherwise replaces its phases (R29,
R30). -/
theorem ownWriteProgram_of_inRange (p : Port) {prog n : Byte} {k : ProgramNo}
    {sent : List (Phase × Byte × Byte × Byte)} (hk : prog.toNat = k.val + 1) (h8 : sent.length ≤ 8)
    (hn : n.toNat = sent.length) (inRange : ∀ x ∈ sent, x.1.InRange) :
    ownWriteProgram p (programBody prog n sent) s
      = if s.anyRecord (Compartment.washesUnder k) then (s, refuse .busy)
        else (s.setProgram k (sent.map Prod.fst), okay []) := by
  have count : ¬ 8 < n.toNat := by omega
  simp only [ownWriteProgram, length_sentPhases, hn, ne_eq, not_true, if_false, if_neg (hn ▸ count),
    programOf_eq_some hk, phasesOfBytes_sent inRange]

/-- Settles O28: the phases are read back from what sends them (`phasesOfBytes_sent`), and READ-PROGRAM sends them in
the same form (`Phase.bytes_eq_sentBytes`). -/
theorem programsWrittenAndRead : Obligations.ProgramsWrittenAndRead := by
  intro tag prog n s ready
  have wrote {rest : List Byte} (h240 : rest.length ≤ 238) {t : State} {r : Reply}
      (ho : ownWriteProgram .office (prog :: n :: rest) s = (t, r)) :
      exec (.writeProgram .office tag (prog :: n :: rest)) s
        = .next (t.replies .office .writeProgram tag r.code r.body) :=
    exec_office (k := .writeProgram) (e := ⟨false, 2, true, false⟩) ready rfl rfl tag (by simp [Entry.lengthOk])
      (by simp; omega) ho
  have reads {r : Reply} (ho : ownReadProgram .office [prog] s = (s, r)) :
      exec (.readProgram .office tag [prog]) s = .next (s.replies .office .readProgram tag r.code r.body) :=
    exec_office (k := .readProgram) ready rfl rfl tag rfl (by simp) ho
  refine ⟨fun rest h240 => ⟨fun hl => wrote (r := refuse .format) h240 ?_,
      fun hl bad => wrote (r := refuse .range) h240 (ownWriteProgram_of_outOfRange _ hl bad)⟩,
    fun k sent hk h8 hn inRange => ?_, fun hk => reads (r := refuse .range) ?_,
    fun k hk => reads (r := okay _) ?_⟩
  · simp only [ownWriteProgram, ne_eq, hl, not_false_eq_true, if_true]
  · have owned := ownWriteProgram_of_inRange (s := s) .office hk h8 hn inRange
    have length := length_sentPhases sent
    refine ⟨fun used => wrote (r := refuse .busy) (by omega) ?_, fun free => wrote (r := okay []) (by omega) ?_⟩
    · exact owned.trans (if_pos ((State.anyWashing_iff k).mpr used))
    · refine owned.trans (if_neg fun h => ?_)
      obtain ⟨r, c, hc, hw⟩ := (State.anyWashing_iff k).mp h
      exact free r c hc hw
  · simp [ownReadProgram, (programOf_eq_none_iff _).mpr hk]
  · simp only [ownReadProgram, programOf_eq_some hk, funext Phase.bytes_eq_sentBytes]
    refine congrArg (fun count => (s, okay (_ ++ byte1 count ++ _))) (s.countRecords_eq fun r => ?_)
    cases s.ret.pool[r] with
    | none => rfl
    | some c => exact (c.washesUnder_eq_decide k).symm

end Sys2Proof.Machine
end

section
/-! # The assessment of an intent, and SET-INTENT (R34 to R40) -/

namespace Sys2Proof.Machine

variable {s : State}

/-! ## The strongest cell (R25, R34) -/

/-- A fold of the stronger cell comes to the cell it starts from or to one of the history's, and none is stronger. -/
theorem foldl_stronger (f : ClassNo → Cell) (history : List ClassNo) (a : Cell) :
    let c := history.foldl (fun a k => a.stronger (f k)) a
    (c = a ∨ ∃ k ∈ history, f k = c) ∧ a.code ≤ c.code ∧ ∀ k ∈ history, (f k).code ≤ c.code := by
  induction history generalizing a with
  | nil => simp
  | cons k history ih =>
    obtain ⟨attained, least, most⟩ := ih (a.stronger (f k))
    have step : (a.stronger (f k) = a ∨ a.stronger (f k) = f k) ∧ a.code ≤ (a.stronger (f k)).code
        ∧ (f k).code ≤ (a.stronger (f k)).code := by
      unfold Cell.stronger
      split
      · exact ⟨.inr rfl, by omega, le_refl _⟩
      · exact ⟨.inl rfl, le_refl _, by omega⟩
    obtain ⟨one, left, right⟩ := step
    simp only [List.foldl_cons]
    refine ⟨?_, left.trans least, fun j hj => ?_⟩
    · rcases attained with e | ⟨j, hj, e⟩
      · rw [e]
        exact one.imp_right fun e => ⟨k, by simp, e.symm⟩
      · exact .inr ⟨j, by simp [hj], e⟩
    · rcases List.mem_cons.mp hj with rfl | hj
      · exact right.trans least
      · exact most j hj

/-- The demand of the strongest cell over a history without a BARRED one (R34). -/
theorem Retained.strongest_demand (r : Retained) (g : Group) {history : List ClassNo}
    (h : ∀ k ∈ history, r.cellFor g k ≠ .barred) :
    (r.strongest g history).demand = if ∃ k ∈ history, r.cellFor g k = .deep then .deep
      else if ∃ k ∈ history, r.cellFor g k = .wash then .wash else .noWash := by
  obtain ⟨attained, -, most⟩ := foldl_stronger (r.cellFor g) history .noWash
  change (r.strongest g history = .noWash ∨ ∃ k ∈ history, r.cellFor g k = r.strongest g history) at attained
  change ∀ k ∈ history, (r.cellFor g k).code ≤ (r.strongest g history).code at most
  generalize r.strongest g history = c at attained most
  have below (x : Cell) (hx : c.code < x.code) : ¬ ∃ k ∈ history, r.cellFor g k = x := by
    rintro ⟨k, hk, rfl⟩
    have := most k hk
    omega
  cases c with
  | noWash => rw [if_neg (below .deep (by decide)), if_neg (below .wash (by decide))]; rfl
  | wash => rw [if_neg (below .deep (by decide)), if_pos (attained.resolve_left (by simp))]; rfl
  | deep => rw [if_pos (attained.resolve_left (by simp))]; rfl
  | barred =>
    obtain ⟨k, hk, e⟩ := attained.resolve_left (by simp)
    exact absurd e (h k hk)

/-! ## The assessment (R34, R35, R36) -/

/-- The grade raise (R35). -/
theorem gradeRaise_eq (grade : Grade) (technical : Bool) (d : Demand) :
    gradeRaise grade technical d = if grade = .food ∧ technical = true then .deep
      else if grade = .feed ∧ technical = true ∧ d = .noWash then .wash else d := by
  cases technical with
  | false => simp [gradeRaise]
  | true => cases grade <;> cases d <;> rfl

/-- A demand with its program, by whether it asks for a wash (R36). -/
theorem Retained.withProgram_eq (r : Retained) (d : Demand) (program : Option ProgramNo) :
    r.withProgram d program = if d = .noWash then .demands .noWash none
      else match program with
        | none => .emptyProgram
        | some k => if r.programs[k] = [] then .emptyProgram else .demands d (some k) := by
  cases d <;> cases program <;> rfl

section

variable {r : Retained} {intent : ClassNo} {d : ClassDef} (hd : r.classes[intent] = some d)

include hd

/-- An empty history asks for WASH under the intent's program (R36). -/
theorem Retained.assess_of_empty : r.assess [] intent = r.withProgram .wash (some d.program) := by
  simp only [Retained.assess, hd]

/-- The first BARRED cell ends the assessment (R34). -/
theorem Retained.assess_of_barred {pre post : List ClassNo} {k : ClassNo} (hk : r.cellFor d.group k = .barred)
    (first : ∀ j ∈ pre, r.cellFor d.group j ≠ .barred) : r.assess (pre ++ k :: post) intent = .barred k := by
  have found : (pre ++ k :: post).find? (fun j => r.cellFor d.group j == .barred) = some k :=
    List.find?_eq_some_iff_append.mpr ⟨by simp [hk], pre, post, rfl, fun j hj => by simpa using first j hj⟩
  simp only [Retained.assess, hd]
  split
  next e => simp at e
  · rw [found]

/-- Without a BARRED cell the demand is the strongest cell's, raised, under the newest class's program
(R34, R35, R36). -/
theorem Retained.assess_of_allowed {newest : ClassNo} {older : List ClassNo}
    (h : ∀ k ∈ newest :: older, r.cellFor d.group k ≠ .barred) :
    r.assess (newest :: older) intent
      = r.withProgram
        (gradeRaise d.grade (r.technicalIn (newest :: older)) (r.strongest d.group (newest :: older)).demand)
        ((r.classes[newest]).map (·.program)) := by
  have none : (newest :: older).find? (fun k => r.cellFor d.group k == .barred) = none :=
    List.find?_eq_none.mpr fun k hk => by simpa using h k hk
  simp only [Retained.assess, hd, none]

end

/-- Settles O29: each clause is the assessment's own (`Retained.assess_of_empty`, `Retained.assess_of_barred`,
`Retained.assess_of_allowed`), the demand by `Retained.strongest_demand`. -/
theorem assessmentOfAnIntent : Obligations.AssessmentOfAnIntent := by
  intro r history intent
  refine ⟨fun h => by simp only [Retained.assess, h], fun d hd => ⟨?_, ?_, ?_⟩⟩
  · rintro rfl
    exact (Retained.assess_of_empty hd).trans (r.withProgram_eq _ _)
  · rintro pre k post rfl hk first
    exact Retained.assess_of_barred hd hk first
  · rintro newest older rfl allowed
    simp only
    rw [Retained.assess_of_allowed hd allowed, Retained.strongest_demand r d.group allowed, gradeRaise_eq]
    exact r.withProgram_eq _ _

/-! ## SET-INTENT (R37 to R40) -/

/-- The states a SET-INTENT acts in (R37). -/
theorem CState.canTarget_iff (x : CState) : x.canTarget = true ↔ x = .dirty ∨ x = .washed ∨ x = .released := by
  cases x <;> decide

section

variable {x : Named} {k : ClassNo} {d : Demand} {program : Option ProgramNo}

/-- A retargeting that leaves the state as it is writes the record (R37). -/
theorem State.retarget_of_same {c : Compartment} (hc : x.record.retargeted k d program = c)
    (hs : c.state = x.record.state) : s.retarget x k d program = s.setRecord x.ref (some c) := by
  subst hc
  simp only [State.retarget, if_pos hs]

/-- A retargeting that changes the state hands the record over (R37). -/
theorem State.retarget_of_changed {c : Compartment} (hc : x.record.retargeted k d program = c)
    (hs : c.state ≠ x.record.state) : s.retarget x k d program = s.changeRecord x.ref c := by
  subst hc
  simp only [State.retarget, if_neg hs]

end

section

variable {c : Compartment} (k : ClassNo) (d : Demand) (program : Option ProgramNo)

/-- A DIRTY record takes the demand, and is WASHED at once where that is NONE (R38). -/
theorem Compartment.retargeted_of_dirty (hq : c.state = .dirty) :
    c.retargeted k d program = if d = .noWash then
        { c.targeted k d program with state := .washed, summary := some ⟨.noWash, [], none⟩ }
      else c.targeted k d program := by
  simp only [Compartment.retargeted, hq]

variable {w : WashSummary} (hw : c.summary = some w)

include hw

/-- A WASHED record stays so while the wash performed covers the demand (R39). -/
theorem Compartment.retargeted_of_washed (hq : c.state = .washed) :
    c.retargeted k d program = if d.code ≤ w.kind.code then c.targeted k d program
      else { c.targeted k d program with state := .dirty, summary := none } := by
  simp only [Compartment.retargeted, hq, Compartment.covers, hw, decide_eq_true_eq]

/-- A RELEASED record loses its release, and its wash too where that does not cover the demand (R40). -/
theorem Compartment.retargeted_of_released (hq : c.state = .released) :
    c.retargeted k d program = if d.code ≤ w.kind.code then
        { c.targeted k d program with state := .washed, release := none }
      else { c.targeted k d program with state := .dirty, release := none, summary := none } := by
  simp only [Compartment.retargeted, hq, Compartment.covers, hw, decide_eq_true_eq]

end

/-- Settles O30: the refusals are `setIntentOn`'s in order, and a taken request is `State.retarget`'s of the record its
state gives (`Compartment.retargeted`). -/
theorem setIntentActsByState : Obligations.SetIntentActsByState := by
  intro tag slot n k s x ready hopen hx answers
  have answered {t : State} {r : Reply} (ho : setIntentOn x k.toNat s = (t, r)) :
      exec (.setIntent .office tag [slot, n, k]) s = .next (t.replies .office .setIntent tag r.code r.body) := by
    refine exec_owned (k := .setIntent) ready tag [slot, n, k] (by simp)
      (commonCheck_isOpen (e := entryOf 3 false) hopen rfl rfl (fun h => by cases h)) ?_
    simp only [owner, ownSetIntent, hx, ho]
  refine ⟨fun hk => answered (r := refuse .range) ?_, fun intent hk => ⟨fun hq => answered (r := refuse .state) ?_,
    fun hq => ?_⟩⟩
  · simp [setIntentOn, (classOf_eq_none_iff _).mpr hk]
  · have : x.record.state.canTarget = false := by rwa [Bool.eq_false_iff, Ne, CState.canTarget_iff]
    simp [setIntentOn, classOf_eq_some hk, this]
  · have target : x.record.state.canTarget ≠ false := by
      rw [(CState.canTarget_iff _).mpr hq]; decide
    refine ⟨fun ha => answered (r := refuse .cargoClass) ?_, fun j ha => answered (r := ⟨.barred, _⟩) ?_,
      fun ha => answered (r := refuse .cargoClass) ?_, fun d program ha => ?_⟩
    · simp only [setIntentOn, classOf_eq_some hk, if_neg target, ha]
    · simp only [setIntentOn, classOf_eq_some hk, if_neg target, ha]
      rfl
    · simp only [setIntentOn, classOf_eq_some hk, if_neg target, ha]
    · have taken {c : Compartment} {t : State} {y : CState} (hc : x.record.retargeted intent d program = c)
          (ht : s.retarget x intent d program = t) (hy : c.state = y) :
          exec (.setIntent .office tag [slot, n, k]) s = .next (t.replies .office .setIntent tag .ok
            (byte1 y.code ++ byte1 d.code ++ byte1 (programNumber program))) := by
        refine answered (r := okay _) ?_
        simp only [setIntentOn, classOf_eq_some hk, if_neg target, ha, hc, ht, hy]
      have same {c : Compartment} (hc : x.record.retargeted intent d program = c) (hs : c.state = x.record.state) :=
        taken hc (State.retarget_of_same hc hs) hs
      have changed {c : Compartment} (hc : x.record.retargeted intent d program = c)
          (hs : c.state ≠ x.record.state) := taken hc (State.retarget_of_changed hc hs) rfl
      refine ⟨fun hq hd => ?_, fun hq hd => ?_, fun w hw => ⟨fun hq hc => ?_, fun hq hc => ?_, fun hq hc => ?_,
        fun hq hc => ?_⟩⟩
      · exact hq ▸ same ((Compartment.retargeted_of_dirty intent d program hq).trans (if_neg hd)) rfl
      · exact changed ((Compartment.retargeted_of_dirty intent d program hq).trans (if_pos hd)) (by simp [hq])
      · exact hq ▸ same ((Compartment.retargeted_of_washed intent d program hw hq).trans (if_pos hc)) rfl
      · exact changed ((Compartment.retargeted_of_washed intent d program hw hq).trans (if_neg (by omega)))
          (by simp [hq])
      · exact changed ((Compartment.retargeted_of_released intent d program hw hq).trans (if_pos hc)) (by simp [hq])
      · exact changed ((Compartment.retargeted_of_released intent d program hw hq).trans (if_neg (by omega)))
          (by simp [hq])

end Sys2Proof.Machine
end

section
/-! # The law of the wash units, and the states that keep it

The law is taken apart into what it says of one wash unit with its compartment's record (`WashUnit.Fits`) and of whose
the compartments are (`State.Washes`). A move of the wash cycle rewrites one unit and one record together
(`State.Washes.moveTo`); every other operation leaves both as they are, as far as the law reads them
(`State.SameWashes`). -/

namespace Sys2Proof.Machine

variable {s t u : State} {b : Bay} {r : RecordRef} {c c' : Compartment}

/-! ## One wash unit -/

/-- What the law says of a wash unit whose compartment's record is `o` (R42, R64, R84). -/
structure WashUnit.Fits (x : WashUnit) (o : Option Compartment) : Prop where
  phase : x.phaseTimer = true ↔ ∃ c ∈ o, c.state = .running
  interval : x.intervalTimer = true ↔ ∃ c ∈ o, c.state = .running
  meter : x.intervalK.isSome = true ↔ ∃ c ∈ o, c.state = .running
  handover : x.handoverTimer.isSome = true ↔ ∃ c ∈ o, c.state = .handover
  reEntry : x.reEntryTimer.isSome = true ↔ ∃ c ∈ o, c.state = .queued ∧ ∃ p ∈ c.progress, 2 ≤ p.phaseIndex
  hold : x.holdTimer.isSome = true ↔ ∃ c ∈ o, c.state = .held
  counter : ∀ c ∈ o, c.state = .running → ∀ p ∈ c.progress, p.endpointCount = x.endpointCounter

/-- The record of the compartment a bay's wash unit is active with. -/
def State.unitRecord (s : State) (b : Bay) : Option Compartment := (s.act.units[b]).active.bind s.record

theorem State.mem_unitRecord_iff : c ∈ s.unitRecord b ↔ ∃ r ∈ (s.act.units[b]).active, c ∈ s.ret.pool[r] :=
  Option.bind_eq_some_iff

theorem State.unitFits_iff : s.UnitFits b ↔ (s.act.units[b]).Fits (s.unitRecord b) := by
  have found (P : Compartment → Prop) : (∃ c ∈ s.unitRecord b, P c)
      ↔ ∃ r ∈ (s.act.units[b]).active, ∃ c ∈ s.ret.pool[r], P c := by
    simp only [State.mem_unitRecord_iff]
    exact ⟨fun ⟨c, ⟨r, hr, hc⟩, h⟩ => ⟨r, hr, c, hc, h⟩, fun ⟨r, hr, c, hc, h⟩ => ⟨c, ⟨r, hr, hc⟩, h⟩⟩
  constructor
  · rintro ⟨phase, interval, meter, handover, reEntry, hold, counter⟩
    refine ⟨phase.trans (found _).symm, interval.trans (found _).symm, meter.trans (found _).symm,
      handover.trans (found _).symm, reEntry.trans (found _).symm, hold.trans (found _).symm, fun c hc => ?_⟩
    obtain ⟨r, hr, hc⟩ := State.mem_unitRecord_iff.mp hc
    exact counter r hr c hc
  · rintro ⟨phase, interval, meter, handover, reEntry, hold, counter⟩
    exact ⟨phase.trans (found _), interval.trans (found _), meter.trans (found _), handover.trans (found _),
      reEntry.trans (found _), hold.trans (found _),
      fun r hr c hc => counter c (State.mem_unitRecord_iff.mpr ⟨r, hr, hc⟩)⟩

/-! ### The wash cycle's moves of a unit and its compartment's record -/

section

variable {x v : WashUnit} {p q : Progress}

/-- An idle unit (R42, R65). -/
theorem WashUnit.idle_fits (x : WashUnit) : x.idle.Fits none := by
  constructor <;> simp [WashUnit.idle, WashUnit.start]

/-- A compartment that was not RUNNING enters QUEUED (R46, R52, R59, R62). -/
theorem WashUnit.Fits.enterQueued {o : Option Compartment} (h : x.Fits o) (hq : ∀ c ∈ o, c.state ≠ .running)
    (r : RecordRef) (limit clock : Nat) (clamped : Bool) :
    (x.enterQueued r p.phaseIndex limit).Fits (some (c.enterQueued p clock clamped)) := by
  have meter : x.intervalK = none := by simpa using fun hk => (h.meter.mp hk).elim (fun c hc => hq c hc.1 hc.2)
  constructor <;> simp [WashUnit.enterQueued, Compartment.enterQueued, meter]

/-- A grant (R47, R84). -/
theorem WashUnit.Fits.granted (h : x.Fits (some c)) (hq : c.state = .queued) (k shares : Nat) :
    (x.granted k).Fits (some (c.granted p shares)) := by
  have handover := h.handover
  have hold := h.hold
  constructor <;> simp_all [WashUnit.granted, Compartment.granted]

/-- A hold (R60). -/
theorem WashUnit.heldAt_fits (x : WashUnit) (limit clock : Nat) : (x.heldAt limit).Fits (some (c.heldAt p clock)) := by
  constructor <;> simp [WashUnit.heldAt, WashUnit.ended, Compartment.heldAt]

/-- A resume to HANDOVER (R62). -/
theorem WashUnit.Fits.backToHandover (h : x.Fits (some c)) (hq : c.state = .held) (limit : Nat) :
    { x with holdTimer := none, handoverTimer := some limit }.Fits (some (c.backToHandover p)) := by
  obtain ⟨phase, interval, meter, -, reEntry, -, -⟩ := h
  constructor <;> simp_all [Compartment.backToHandover]

/-- While its compartment is RUNNING a unit's re-entry and hold timers are stopped (R42). -/
theorem WashUnit.Fits.timers_of_running (h : x.Fits (some c)) (hq : c.state = .running) :
    x.reEntryTimer = none ∧ x.holdTimer = none := by
  have reEntry := h.reEntry
  have hold := h.hold
  simp_all

/-- A completed phase handed over (R51). -/
theorem WashUnit.handedOver_fits (reEntry : x.reEntryTimer = none) (hold : x.holdTimer = none) (limit : Nat) :
    { x.ended with handoverTimer := some limit }.Fits (some (c.handedOver p)) := by
  constructor <;> simp [WashUnit.ended, Compartment.handedOver, reEntry, hold]

/-- The progress of a RUNNING compartment rewritten, with its endpoint count the one the unit's counter writes; of the
unit only the account items and the counter (R42, R64, R84). -/
theorem WashUnit.Fits.runOn (h : x.Fits (some c)) (hq : c.state = .running) (phase : v.phaseTimer = x.phaseTimer)
    (interval : v.intervalTimer = x.intervalTimer) (meter : v.intervalK.isSome = true)
    (handover : v.handoverTimer = x.handoverTimer) (reEntry : v.reEntryTimer = x.reEntryTimer)
    (hold : v.holdTimer = x.holdTimer) (counter : q.endpointCount = v.endpointCounter) :
    v.Fits (some { c with progress := some q }) := by
  obtain ⟨phase', interval', -, handover', reEntry', hold', -⟩ := h
  constructor <;> simp_all

end

/-! ## Whose the compartments are -/

/-- The law of the wash units of a powered part (R42, R43). -/
structure State.Washes (s : State) : Prop where
  unit : ∀ b r, (s.act.units[b]).active = some r →
    (∃ c, s.ret.pool[r] = some c ∧ c.state.isWash = true) ∧ s.ownerBinding r = some (.bay b)
  some_unit : ∀ (r : RecordRef) c, s.ret.pool[r] = some c → c.state.isWash = true →
    ∃ b : Bay, (s.act.units[b]).active = some r
  apart : ∀ b b' : Bay, b ≠ b' → ∀ r, (s.act.units[b]).active = some r → (s.act.units[b']).active ≠ some r
  fits : ∀ b : Bay, (s.act.units[b]).Fits (s.unitRecord b)

theorem State.washLaw_iff (s : State) : s.WashLaw ↔ (s.mainPower = true → s.Washes) := by
  simp only [State.WashLaw, State.unitFits_iff]
  exact ⟨fun h hp => have ⟨unit, someUnit, apart, fits⟩ := h hp; ⟨unit, someUnit, apart, fits⟩,
    fun h hp => have ⟨unit, someUnit, apart, fits⟩ := h hp; ⟨unit, someUnit, apart, fits⟩⟩

/-- A record's tanker and its binding are read off the tankers (R3, R12). -/
theorem State.ownerBinding_congr (h : t.ret.tankers = s.ret.tankers) (r : RecordRef) :
    t.ownerBinding r = s.ownerBinding r := by
  simp only [State.ownerBinding, State.ownerSlot, h]

namespace State.Washes

/-- The record of an active unit's compartment fits the unit. -/
theorem fits_record (h : s.Washes) (hu : (s.act.units[b]).active = some r) (hc : s.ret.pool[r] = some c) :
    (s.act.units[b]).Fits (some c) := by
  have := h.fits b
  rwa [State.unitRecord, hu, Option.bind_some, show s.record r = some c from hc] at this

/-- An idle unit fits no record. -/
theorem fits_none (h : s.Washes) (hu : (s.act.units[b]).active = none) : (s.act.units[b]).Fits none := by
  have := h.fits b
  rwa [State.unitRecord, hu, Option.bind_none] at this

/-- One bay's unit and one record rewritten together: the bay's compartment before, if any, was that record and no
other bay's; after, the unit is active with it exactly if it is in a wash state, and fits it. -/
theorem moveTo (h : s.Washes) {v : WashUnit} (pool : t.ret.pool = s.ret.pool.set r (some c'))
    (tankers : t.ret.tankers = s.ret.tankers) (units : t.act.units = s.act.units.set b v)
    (only : ∀ k, (s.act.units[b]).active = some k → k = r)
    (others : ∀ b', b' ≠ b → (s.act.units[b']).active ≠ some r)
    (active : v.active = if c'.state.isWash then some r else none)
    (bound : c'.state.isWash = true → s.ownerBinding r = some (.bay b))
    (fits : v.Fits (v.active.map fun _ => c')) : t.Washes := by
  have unitAt (b' : Bay) : t.act.units[b'] = if b' = b then v else s.act.units[b'] := by rw [units, table_set]
  have recordAt (k : RecordRef) : t.ret.pool[k] = if k = r then some c' else s.ret.pool[k] := by
    rw [pool, table_set]
  have owner := State.ownerBinding_congr tankers
  -- the compartment of a unit that stands is not the record rewritten
  have stands {b' : Bay} (hb : b' ≠ b) {k : RecordRef} (hk : (s.act.units[b']).active = some k) : k ≠ r := by
    rintro rfl
    exact others b' hb hk
  have moved {k : RecordRef} (hk : v.active = some k) : k = r ∧ c'.state.isWash = true := by
    rw [active] at hk
    split at hk
    next hw => exact ⟨(Option.some.inj hk).symm, hw⟩
    · cases hk
  refine ⟨fun b' k hk => ?_, fun k d hd hw => ?_, fun b₁ b₂ hne k hk₁ hk₂ => ?_, fun b' => ?_⟩
  · rw [owner, recordAt]
    rw [unitAt] at hk
    split at hk
    next hb =>
      obtain ⟨rfl, hw⟩ := moved hk
      exact ⟨⟨c', if_pos rfl, hw⟩, hb ▸ bound hw⟩
    next hb =>
      rw [if_neg (stands hb hk)]
      exact h.unit b' k hk
  · rw [recordAt] at hd
    split at hd
    next hk =>
      cases hd
      exact ⟨b, by rw [unitAt, if_pos rfl, active, if_pos hw, hk]⟩
    next hk =>
      obtain ⟨b', hb'⟩ := h.some_unit k d hd hw
      have hb : b' ≠ b := by
        rintro rfl
        exact hk (only k hb')
      exact ⟨b', by rw [unitAt, if_neg hb, hb']⟩
  · rw [unitAt] at hk₁ hk₂
    split at hk₁ <;> split at hk₂
    next h₁ h₂ => exact hne (h₁.trans h₂.symm)
    next h₂ => exact stands h₂ hk₂ (moved hk₁).1
    next h₁ _ => exact stands h₁ hk₁ (moved hk₂).1
    · exact h.apart b₁ b₂ hne k hk₁ hk₂
  · rw [State.unitRecord, unitAt]
    split
    · have : v.active.bind t.record = v.active.map fun _ => c' := by
        cases hv : v.active with
        | none => rfl
        | some k =>
          obtain ⟨rfl, -⟩ := moved hv
          exact (recordAt k).trans (if_pos rfl)
      rw [this]
      exact fits
    next hb =>
      have : (s.act.units[b']).active.bind t.record = s.unitRecord b' := by
        cases hv : (s.act.units[b']).active with
        | none => rw [State.unitRecord, hv]; rfl
        | some k =>
          rw [State.unitRecord, hv]
          exact (recordAt k).trans (if_neg (stands hb hv))
      rw [this]
      exact h.fits b'

end State.Washes

/-! ### A record changed after moves of its bay's unit -/

@[simp] theorem State.changeRecord_pool (s : State) (r : RecordRef) (c : Compartment) :
    (s.changeRecord r c).ret.pool = s.ret.pool.set r (some c) := by
  obtain ⟨v, frame⟩ := s.changeRecord_frame r c
  rw [frame]

@[simp] theorem State.changeRecord_tankers (s : State) (r : RecordRef) (c : Compartment) :
    (s.changeRecord r c).ret.tankers = s.ret.tankers := by
  obtain ⟨v, frame⟩ := s.changeRecord_frame r c
  rw [frame]

@[simp] theorem State.changeRecord_units (s : State) (r : RecordRef) (c : Compartment) :
    (s.changeRecord r c).act.units = s.act.units := by
  obtain ⟨v, frame⟩ := s.changeRecord_frame r c
  rw [frame]

@[simp] theorem State.changeRecord_mainPower (s : State) (r : RecordRef) (c : Compartment) :
    (s.changeRecord r c).mainPower = s.mainPower := by
  obtain ⟨v, frame⟩ := s.changeRecord_frame r c
  rw [frame]

namespace State.Washes

section

variable (h : s.Washes) {v : WashUnit} (hu : (s.act.units[b]).active = some r)

include h hu

/-- A bay's compartment stays in a wash state. -/
theorem stay (pool : t.ret.pool = s.ret.pool.set r (some c')) (tankers : t.ret.tankers = s.ret.tankers)
    (units : t.act.units = s.act.units.set b v) (active : v.active = some r) (hw : c'.state.isWash = true)
    (fits : v.Fits (some c')) : t.Washes := by
  refine h.moveTo pool tankers units (fun k hk => ?_) (fun b' hb => h.apart b b' hb.symm r hu) ?_
    (fun _ => (h.unit b r hu).2) ?_
  · exact Option.some.inj (hk.symm.trans hu)
  · rw [active, if_pos hw]
  · rwa [active]

/-- A bay's compartment leaves the wash states. -/
theorem leave (pool : t.ret.pool = s.ret.pool.set r (some c')) (tankers : t.ret.tankers = s.ret.tankers)
    (units : t.act.units = s.act.units.set b v) (active : v.active = none) (hw : c'.state.isWash = false)
    (fits : v.Fits none) : t.Washes := by
  refine h.moveTo pool tankers units (fun k hk => ?_) (fun b' hb => h.apart b b' hb.symm r hu) ?_
    (fun hw' => by rw [hw] at hw'; cases hw') ?_
  · exact Option.some.inj (hk.symm.trans hu)
  · rw [active, hw]; rfl
  · rwa [active]

end

end State.Washes

/-! ## Operations that leave the washes as they are -/

/-- What the law reads of a wash unit: all but the supply temperature held and the pulses of the interval. -/
def WashUnit.bare (x : WashUnit) : WashUnit := { x with supply := none, intervalCount := 0 }

/-- What the law reads of a record: its state and progress while it is in a wash state. -/
def Compartment.washPart (c : Compartment) : Option (CState × Option Progress) :=
  if c.state.isWash then some (c.state, c.progress) else none

theorem Compartment.washPart_eq_none (h : c.state.isWash = false) : c.washPart = none := by
  simp [Compartment.washPart, h]

theorem Compartment.washPart_eq_some {y : CState × Option Progress} :
    c.washPart = some y ↔ c.state.isWash = true ∧ c.state = y.1 ∧ c.progress = y.2 := by
  unfold Compartment.washPart
  split
  next hw => simp [hw, Prod.ext_iff]
  next hw => simp [hw]

/-- A record stands in a wash state where one with its wash part does. -/
theorem Compartment.washing_of_washPart {o o' : Option Compartment}
    (h : o'.bind Compartment.washPart = o.bind Compartment.washPart) (hc : o = some c) (hw : c.state.isWash = true) :
    ∃ d, o' = some d ∧ d.state.isWash = true := by
  have part : c.washPart = some (c.state, c.progress) := Compartment.washPart_eq_some.mpr ⟨hw, rfl, rfl⟩
  rw [hc, Option.bind_some, part] at h
  obtain ⟨d, hd, hy⟩ := Option.bind_eq_some_iff.mp h
  exact ⟨d, hd, (Compartment.washPart_eq_some.mp hy).1⟩

/-- One state's washes stand in another: the units, the records in a wash state, and the binding of each unit's
compartment are as they were, as far as the law reads them. -/
structure State.SameWashes (s t : State) : Prop where
  power : t.mainPower = s.mainPower
  units : ∀ b : Bay, (t.act.units[b]).bare = (s.act.units[b]).bare
  records : ∀ r : RecordRef, (t.ret.pool[r]).bind Compartment.washPart = (s.ret.pool[r]).bind Compartment.washPart
  owners : ∀ (b : Bay) r, (s.act.units[b]).active = some r → t.ownerBinding r = s.ownerBinding r

/-- A unit's law reads of the record only its wash part. -/
theorem WashUnit.Fits.of_washPart {x v : WashUnit} {o o' : Option Compartment} (h : x.Fits o) (hx : v.bare = x.bare)
    (ho : o'.bind Compartment.washPart = o.bind Compartment.washPart) : v.Fits o' := by
  have found (P : CState → Option Progress → Prop) (hP : ∀ y p, P y p → y.isWash = true) (o : Option Compartment) :
      (∃ c ∈ o, P c.state c.progress) ↔ ∃ y ∈ o.bind Compartment.washPart, P y.1 y.2 := by
    simp only [Option.mem_def, Option.bind_eq_some_iff]
    constructor
    · rintro ⟨c, hc, h⟩
      exact ⟨(c.state, c.progress), ⟨c, hc, Compartment.washPart_eq_some.mpr ⟨hP _ _ h, rfl, rfl⟩⟩, h⟩
    · rintro ⟨y, ⟨c, hc, hy⟩, h⟩
      obtain ⟨-, e₁, e₂⟩ := Compartment.washPart_eq_some.mp hy
      exact ⟨c, hc, by rwa [e₁, e₂]⟩
  have same (P : CState → Option Progress → Prop) (hP : ∀ y p, P y p → y.isWash = true) :
      (∃ c ∈ o', P c.state c.progress) ↔ ∃ c ∈ o, P c.state c.progress := by
    rw [found P hP, found P hP, ho]
  have inState (y : CState) (hy : y.isWash = true) : (∃ c ∈ o', c.state = y) ↔ ∃ c ∈ o, c.state = y :=
    same (fun z _ => z = y) (fun _ _ e => e ▸ hy)
  have reEntered := same (fun z p => z = .queued ∧ ∃ q ∈ p, 2 ≤ q.phaseIndex) (fun _ _ h => h.1 ▸ rfl)
  obtain ⟨phase, interval, meter, handover, reEntry, hold, counter⟩ := h
  simp only [WashUnit.bare, WashUnit.mk.injEq] at hx
  obtain ⟨-, phase', interval', handover', reEntry', hold', -, meter', -, -, counter'⟩ := hx
  refine ⟨?_, ?_, ?_, ?_, ?_, ?_, fun c hc hq p hp => ?_⟩
  · rw [phase', phase, inState _ rfl]
  · rw [interval', interval, inState _ rfl]
  · rw [meter', meter, inState _ rfl]
  · rw [handover', handover, inState _ rfl]
  · rw [reEntry', reEntry]
    exact reEntered.symm
  · rw [hold', hold, inState _ rfl]
  · obtain ⟨d, hd, hq', p', hp', e⟩ := (same (fun z q => z = .running ∧ ∃ p' ∈ q, p' = p) (fun _ _ h => h.1 ▸ rfl)).mp
      ⟨c, hc, hq, p, hp, rfl⟩
    rw [counter', ← e]
    exact counter d hd hq' p' hp'

namespace State.SameWashes

theorem refl (s : State) : s.SameWashes s := ⟨rfl, fun _ => rfl, fun _ => rfl, fun _ _ _ => rfl⟩

/-- The compartment a unit is active with is as it was. -/
theorem active (h : s.SameWashes t) (b : Bay) : (t.act.units[b]).active = (s.act.units[b]).active :=
  have := congrArg WashUnit.active (h.units b)
  this

theorem trans (h : s.SameWashes t) (h' : t.SameWashes u) : s.SameWashes u :=
  ⟨h'.power.trans h.power, fun b => (h'.units b).trans (h.units b), fun r => (h'.records r).trans (h.records r),
    fun b r hr => (h'.owners b r ((h.active b).trans hr)).trans (h.owners b r hr)⟩

/-- The law is kept where the washes stand. -/
theorem washes (h : s.SameWashes t) (law : s.Washes) : t.Washes := by
  refine ⟨fun b r hr => ?_, fun r c hc hw => ?_, fun b b' hb r => ?_, fun b => ?_⟩
  · rw [h.active] at hr
    obtain ⟨⟨c, hc, hw⟩, owner⟩ := law.unit b r hr
    exact ⟨Compartment.washing_of_washPart (h.records r) hc hw, (h.owners b r hr).trans owner⟩
  · obtain ⟨d, hd, hw'⟩ := Compartment.washing_of_washPart (h.records r).symm hc hw
    obtain ⟨b, hb⟩ := law.some_unit r d hd hw'
    exact ⟨b, (h.active b).trans hb⟩
  · rw [h.active, h.active]
    exact law.apart b b' hb r
  · refine (law.fits b).of_washPart (h.units b) ?_
    rw [State.unitRecord, State.unitRecord, h.active]
    cases hr : (s.act.units[b]).active with
    | none => rfl
    | some r => exact h.records r

theorem washLaw (h : s.SameWashes t) (law : s.WashLaw) : t.WashLaw := by
  rw [State.washLaw_iff] at law ⊢
  exact fun hp => h.washes (law (h.power.symm.trans hp))

/-- The washes are read off the pool, the tankers, the units and main power. -/
theorem of_same (pool : t.ret.pool = s.ret.pool) (tankers : t.ret.tankers = s.ret.tankers)
    (units : t.act.units = s.act.units) (power : t.mainPower = s.mainPower) : s.SameWashes t :=
  ⟨power, fun b => by rw [units], fun r => by rw [pool], fun _ r _ => State.ownerBinding_congr tankers r⟩

/-- A record written with the wash part that stood there. -/
theorem ofWrite (hw : c'.washPart = (s.ret.pool[r]).bind Compartment.washPart)
    (pool : t.ret.pool = s.ret.pool.set r (some c')) (tankers : t.ret.tankers = s.ret.tankers)
    (units : t.act.units = s.act.units) (power : t.mainPower = s.mainPower) : s.SameWashes t := by
  refine ⟨power, fun b => by rw [units], fun k => ?_, fun _ k _ => State.ownerBinding_congr tankers k⟩
  rw [pool, table_set]
  split
  next hk => rw [hk]; exact hw
  · rfl

/-- A record in use rewritten with its wash part as it was. -/
theorem ofRecord (hc : s.ret.pool[r] = some c) (hw : c'.washPart = c.washPart)
    (pool : t.ret.pool = s.ret.pool.set r (some c')) (tankers : t.ret.tankers = s.ret.tankers)
    (units : t.act.units = s.act.units) (power : t.mainPower = s.mainPower) : s.SameWashes t :=
  ofWrite (by rw [hc]; exact hw) pool tankers units power

/-- A record outside the wash states changed to another such. -/
theorem ofChange (hc : s.ret.pool[r] = some c) (old : c.state.isWash = false) (new : c'.state.isWash = false) :
    s.SameWashes (s.changeRecord r c') :=
  ofRecord hc (by rw [Compartment.washPart_eq_none old, Compartment.washPart_eq_none new]) (s.changeRecord_pool r c')
    (s.changeRecord_tankers r c') (s.changeRecord_units r c') (s.changeRecord_mainPower r c')

/-- A transition request between states outside the wash states. -/
theorem transition (s : State) (r : RecordRef) {expected : List CState} {f : Compartment → Compartment}
    (old : ∀ y ∈ expected, y.isWash = false) (new : ∀ c, c.state ∈ expected → (f c).state.isWash = false) :
    s.SameWashes (s.transition r expected f) := by
  rcases s.transition_cases r expected f with ⟨c, hc, he, h⟩ | ⟨-, h⟩
  · rw [h]
    exact ofChange hc (old _ he) (new c he)
  · rw [h]
    exact refl s

/-- A fold of moves that each leave the washes as they are. -/
theorem foldl {α : Type} {f : State → α → State} (hf : ∀ (s : State) x, s.SameWashes (f s x)) (xs : List α)
    (s : State) : s.SameWashes (xs.foldl f s) := by
  induction xs generalizing s with
  | nil => exact refl s
  | cons x xs ih => exact (hf s x).trans (ih (f s x))

end State.SameWashes

/-- The law of the units is read off the pool, the tankers, the units and main power. -/
theorem State.Washes.of_same (h : s.Washes) (pool : t.ret.pool = s.ret.pool) (tankers : t.ret.tankers = s.ret.tankers)
    (units : t.act.units = s.act.units) (power : t.mainPower = s.mainPower) : t.Washes :=
  State.SameWashes.washes (.of_same pool tankers units power) h

end Sys2Proof.Machine
end

section
/-! # The wash cycle keeps the law of the wash units -/

namespace Sys2Proof.Machine

variable {s t : State} {b : Bay} {r : RecordRef} {c : Compartment}

/-- The bay found for a record is active with it (R42). -/
theorem State.of_unitOf (h : s.unitOf r = some b) : (s.act.units[b]).active = some r := by
  simpa using List.find?_some h

/-- A record that some unit is active with has its bay found (R42). -/
theorem State.unitOf_ne_none (h : (s.act.units[b]).active = some r) : s.unitOf r ≠ none := by
  intro hn
  have := List.find?_eq_none.mp hn b (List.mem_finRange b)
  exact this (by simpa using h)

/-- A grant request that reaches the yard table comes of an entry of the queue (R68, R72, R73). -/
theorem Arbiter.mem_queue_of_request {a : Arbiter} {e : QueueEntry} {backfill : Bool}
    (h : a.request = some (e, backfill)) : e ∈ a.queue := by
  unfold Arbiter.request at h
  split at h
  · obtain ⟨-, head, later, hq, h⟩ := (a.pick_iff e backfill).mp h
    rw [hq]
    rcases h with ⟨-, rfl, -⟩ | ⟨-, -, -, pre, post, rfl, -⟩ <;> simp
  · obtain ⟨x, hx, e⟩ := Option.map_eq_some_iff.mp h
    cases e
    exact List.mem_of_find?_eq_some hx

namespace State.Washes

section

variable (h : s.Washes)

include h

section

variable (hu : (s.act.units[b]).active = some r)

include hu

/-- A wash ended in DIRTY (R55). -/
theorem endWash (c : Compartment) (n : Note) : (s.endWash b r c n).Washes := by
  refine h.leave hu (c' := c.endedDirty n) (v := (s.act.units[b]).idle) ?_ ?_ ?_ rfl rfl (WashUnit.idle_fits _) <;>
    simp [State.endWash]

/-- A compartment of the bay enters QUEUED for its next phase, or again (R52, R62). -/
theorem enterQueued (hc : s.ret.pool[r] = some c) (hq : c.state ≠ .running) (p : Progress) (ph : Phase) :
    (s.enterQueued b r c p ph).Washes := by
  have fits := h.fits_record hu hc
  refine h.stay hu (State.changeRecord_pool _ _ _) (State.changeRecord_tankers _ _ _) (State.changeRecord_units _ _ _)
    rfl rfl (fits.enterQueued (fun d hd => ?_) _ _ _ _)
  cases hd
  exact hq

/-- A phase completed (R50, R51); the update whose test passed may have rewritten the bay's unit, but not its re-entry
and hold timers. -/
theorem completePhase (hc : s.ret.pool[r] = some c) (hq : c.state = .running) {v : WashUnit} (ret : t.ret = s.ret)
    (units : t.act.units = s.act.units.set b v) (active : v.active = some r)
    (reEntry : v.reEntryTimer = (s.act.units[b]).reEntryTimer) (hold : v.holdTimer = (s.act.units[b]).holdTimer)
    (p : Progress) (ph : Phase) : (t.completePhase b r c p ph).Washes := by
  obtain ⟨noReEntry, noHold⟩ := (h.fits_record hu hc).timers_of_running hq
  have unit : t.act.units[b] = v := by rw [units, table_set, if_pos rfl]
  have leaves (x : WashUnit) : t.act.units.set b x = s.act.units.set b x := by simp [units]
  unfold State.completePhase
  simp only [unit]
  split
  · refine h.leave hu (c' := c.washed p (if ph.endpoint.isSome then v.lastSample else none)) ?_ ?_
      ((State.changeRecord_units _ _ _).trans (leaves v.idle)) rfl rfl (WashUnit.idle_fits _)
    · rw [State.changeRecord_pool, ← ret]; rfl
    · rw [State.changeRecord_tankers, ← ret]; rfl
  · refine h.stay hu (c' := c.handedOver p) ?_ ?_ ((State.changeRecord_units _ _ _).trans (leaves _)) active rfl
      (WashUnit.handedOver_fits (reEntry.trans noReEntry) (hold.trans noHold) _)
    · rw [State.changeRecord_pool, ← ret]; rfl
    · rw [State.changeRecord_tankers, ← ret]; rfl

end

/-- A wash stopped by a request: a compartment in a wash state is some unit's (R43, R56, R57). -/
theorem stopWash (hc : s.ret.pool[r] = some c) (hw : c.state.isWash = true) (n : Note) : (s.stopWash r c n).Washes := by
  obtain ⟨b, hb⟩ := h.some_unit r c hc hw
  unfold State.stopWash
  split
  next hu => exact h.endWash (State.of_unitOf hu) c n
  next hu => exact absurd hu (State.unitOf_ne_none hb)

/-- An expiry of a timer that runs exactly in the state it names ends the wash (R42, R44). -/
theorem expire {runs : Bool} {y : CState} (hr : runs = true → ∃ c ∈ s.unitRecord b, c.state = y) (stopped : WashUnit)
    (n : Note) : (s.expire b runs stopped y n).Washes := by
  unfold State.expire
  split
  next hruns =>
    obtain ⟨c, hc, hy⟩ := hr hruns
    obtain ⟨r, hu, hc⟩ := State.mem_unitRecord_iff.mp hc
    have hu : (s.act.units[b]).active = some r := hu
    have hc : s.record r = some c := hc
    simp only [hu, hc, if_pos hy]
    exact h.endWash hu c n
  · exact h

theorem handoverExpiry (b : Bay) : (s.handoverExpiry b).Washes := h.expire (h.fits b).handover.mp _ _

theorem holdExpiry (b : Bay) : (s.holdExpiry b).Washes := h.expire (h.fits b).hold.mp _ _

theorem reEntryExpiry (b : Bay) : (s.reEntryExpiry b).Washes :=
  h.expire (fun hr => have ⟨c, hc, hq, _⟩ := (h.fits b).reEntry.mp hr; ⟨c, hc, hq⟩) _ _

/-- A taken grant (R47, R73). -/
theorem takeGrant {e : QueueEntry} (he : (s.act.units[e.bay]).active = some e.ref)
    (hc : s.ret.pool[e.ref] = some c) (hq : c.state = .queued) (backfill : Bool) (p : Progress) (ph : Phase) :
    (s.takeGrant e backfill c p ph).Washes := by
  have fits := (h.fits_record he hc).granted (p := p) hq (s.ret.meterConstant (.bay e.bay)) e.shares
  refine h.stay he (State.changeRecord_pool _ _ _) (State.changeRecord_tankers _ _ _) ?_ ?_ rfl fits
  · simp [State.takeGrant]
  · exact he

/-- A grant request at the yard table, its queue entries standing for their bays' compartments (R68, R73). -/
theorem grantStep (queue : ∀ e ∈ s.act.arbiter.queue, (s.act.units[e.bay]).active = some e.ref) :
    s.grantStep.Washes := by
  have refused : s.refuseGrant.Washes := h.of_same rfl rfl rfl rfl
  unfold State.grantStep
  split
  · exact refused
  next e backfill he =>
    split
    · exact refused
    next c hc =>
      split
      next p hq hp =>
        split
        · exact h.takeGrant (queue e (Arbiter.mem_queue_of_request he)) hc hq backfill p _
        · exact refused
      · exact refused

/-- A wash unit's hold (R60). -/
theorem holdStep (b : Bay) : (s.holdStep b).Washes := by
  unfold State.holdStep
  simp only
  split
  · exact h
  next r hu =>
    split
    · exact h
    next c hc =>
      split
      · exact h
      next p hp =>
        split
        · refine h.stay hu (v := (s.act.units[b]).heldAt s.ret.holdLimit) (c' := c.heldAt p s.ret.clock) ?_ ?_ ?_ hu rfl
            (WashUnit.heldAt_fits _ _ _) <;> simp
        · exact h

/-- A wash unit's resume (R62). -/
theorem resumeStep (b : Bay) : (s.resumeStep b).Washes := by
  unfold State.resumeStep
  simp only
  split
  · exact h
  next r hu =>
    split
    · exact h
    next c hc =>
      split
      · exact h
      next p hp =>
        split_ifs with hq
        · exact h.stay hu (State.changeRecord_pool _ _ _) (State.changeRecord_tankers _ _ _)
            (State.changeRecord_units _ _ _) hu rfl ((h.fits_record hu hc).backToHandover hq.1 _)
        · split
          · exact h.enterQueued hu hc (by simp [hq.1]) p _
          · exact h
        · exact h

/-- A second of a phase's running time (R42). -/
theorem phaseTick (b : Bay) : (s.phaseTick b).Washes := by
  unfold State.phaseTick
  split
  · exact h
  next w hw =>
    obtain ⟨hu, hc, hq, hp, -⟩ := State.of_runningAt hw
    have fits := h.fits_record hu hc
    have counter := fits.counter _ rfl hq _ hp
    split
    · refine h.stay hu (v := s.act.units[b]) rfl rfl (table_set_self _ _).symm hu (by simp [hq, CState.isWash]) ?_
      exact fits.runOn hq rfl rfl (fits.meter.mpr ⟨_, rfl, hq⟩) rfl rfl rfl counter
    · exact h

/-- The expiry of a phase timer (R54). -/
theorem phaseExpiry (b : Bay) : (s.phaseExpiry b).Washes := by
  unfold State.phaseExpiry
  split
  · exact h
  next w hw =>
    obtain ⟨hu, -⟩ := State.of_runningAt hw
    split
    · exact h.endWash hu _ _
    · exact h

/-- The close of an accounting interval: the next one begins with a meter constant, or the phase completes (R84,
R92). -/
theorem closeInterval (b : Bay) : (s.closeInterval b).Washes := by
  unfold State.closeInterval
  simp only
  split
  · exact h
  next w hw =>
    obtain ⟨hu, hc, hq, hp, -⟩ := State.of_runningAt hw
    have fits := h.fits_record hu hc
    have counter := fits.counter _ rfl hq _ hp
    split_ifs
    · exact h.completePhase hu hc hq rfl (table_set_self _ _).symm hu rfl rfl _ _
    · refine h.stay hu rfl rfl rfl hu (by simp [hq, CState.isWash]) ?_
      exact fits.runOn hq rfl rfl rfl rfl rfl rfl counter
    · exact h

/-- A conductivity sample: the counter writes the endpoint count in the same update (R42, R64, R95). -/
theorem conductivitySample (b : Bay) (sample : Option Nat) : (s.conductivitySample b sample).Washes := by
  unfold State.conductivitySample
  split
  · exact h
  next w hw =>
    split
    · exact h
    next e he =>
      obtain ⟨hu, hc, hq, hp, -⟩ := State.of_runningAt hw
      have fits := h.fits_record hu hc
      simp only
      split
      · refine h.completePhase hu hc hq (v := (s.act.units[b]).sampled e s.ret.hysteresis sample) ?_ ?_ hu rfl rfl _ _
        · rfl
        · rfl
      · refine h.stay hu rfl rfl rfl hu (by simp [hq, CState.isWash]) ?_
        exact fits.runOn hq rfl rfl (fits.meter.mpr ⟨_, rfl, hq⟩) rfl rfl rfl rfl

end

end State.Washes

end Sys2Proof.Machine
end

section
/-! # The operations that leave the washes as they are -/

namespace Sys2Proof.Machine

variable {s t : State}

/-! ## Inspection, cargo, filling and the clock -/

/-- A lapse (R126). -/
theorem State.lapse_sameWashes (s : State) (r : RecordRef) : s.SameWashes (s.lapse r) :=
  .transition s r (by simp [CState.isWash]) (fun _ _ => rfl)

theorem State.lapseAll_sameWashes (s : State) : s.SameWashes s.lapseAll :=
  .foldl (fun s r => s.lapse_sameWashes r) _ s

theorem State.timerCheck_sameWashes (s : State) : s.SameWashes s.timerCheck := by
  unfold State.timerCheck
  split
  · exact .of_same rfl rfl rfl rfl
  · exact .refl s

theorem State.lapseStep_sameWashes (s : State) (r : RecordRef) : s.SameWashes (s.lapseStep r) := by
  unfold State.lapseStep
  split
  · refine .trans ?_ (State.lapse_sameWashes _ r)
    exact .of_same rfl rfl rfl rfl
  · exact .refl s

/-- The clock set shifts deadlines only (R128). -/
theorem State.setClockTo_sameWashes (s : State) (reading : Nat) : s.SameWashes (s.setClockTo reading) := by
  refine ⟨rfl, fun _ => rfl, fun r => ?_, fun _ r _ => State.ownerBinding_congr rfl r⟩
  have : (s.setClockTo reading).ret.pool[r]
      = (s.ret.pool[r]).map (Compartment.shifted s.ret.clock reading) := by
    simp [State.setClockTo, mapTable_eq_map]
  rw [this]
  cases s.ret.pool[r] <;> rfl

theorem State.clockSecond_sameWashes (s : State) : s.SameWashes s.clockSecond := by
  unfold State.clockSecond
  split
  · exact .of_same rfl rfl rfl rfl
  · exact .refl s

section

variable {x : Named} (hx : s.ret.pool[x.ref] = some x.record)

include hx

/-- SET-INTENT acts on a compartment outside the wash states, and leaves it so (R37 to R40). -/
theorem setIntentOn_sameWashes (intent : Nat) : s.SameWashes (setIntentOn x intent s).1 := by
  unfold setIntentOn
  split
  · exact .refl s
  next k _ =>
    split_ifs with hq
    · exact .refl s
    · have old : x.record.state.isWash = false := by
        cases hs : x.record.state <;> simp_all [CState.canTarget, CState.isWash]
      have new (d : Demand) (program : Option ProgramNo) : (x.record.retargeted k d program).state.isWash = false := by
        unfold Compartment.retargeted Compartment.targeted
        cases hs : x.record.state <;> simp_all [CState.canTarget] <;> split_ifs <;> simp [CState.isWash]
      split
      · exact .refl s
      · exact .refl s
      · exact .refl s
      next d program _ =>
        simp only [State.retarget]
        split
        · exact .ofRecord hx
            (by rw [Compartment.washPart_eq_none old, Compartment.washPart_eq_none (new d program)]) rfl rfl rfl rfl
        · exact .ofChange hx old (new d program)

theorem inspectPassOn_sameWashes (inspector : Nat) : s.SameWashes (inspectPassOn x inspector s).1 := by
  unfold inspectPassOn
  split_ifs with _ hq
  · exact .refl s
  · exact .refl s
  · have old : x.record.state.isWash = false := by simp [not_not.mp hq, CState.isWash]
    split
    · refine State.SameWashes.trans (t := s.advanceCertificate) (.of_same rfl rfl rfl rfl) (.ofChange hx old rfl)
    · exact .refl s

theorem inspectFailOn_sameWashes (flag : Nat) : s.SameWashes (inspectFailOn x flag s).1 := by
  unfold inspectFailOn
  split_ifs with _ hq
  · exact .refl s
  · exact .refl s
  · refine .ofChange hx (by simp [not_not.mp hq, CState.isWash]) ?_
    unfold Retained.failed
    split <;> rfl

theorem fillStartOn_sameWashes (cargo preset : Nat) : s.SameWashes (fillStartOn x cargo preset s).1 := by
  unfold fillStartOn
  split
  · exact .refl s
  · split
    · exact .refl s
    · split
      next hq _ =>
        split_ifs
        · exact s.lapse_sameWashes x.ref
        · exact .refl s
        · exact .refl s
        · exact State.SameWashes.trans (t := s.setFillUnit ⟨some x.ref, false⟩) (.of_same rfl rfl rfl rfl)
            (.ofChange hx (by simp [hq, CState.isWash]) rfl)
      · exact .refl s

theorem fillEndOn_sameWashes (litres : Nat) : s.SameWashes (fillEndOn x litres s).1 := by
  unfold fillEndOn
  split
  next hq _ =>
    exact State.SameWashes.trans (t := s.setFillUnit FillUnit.idle) (.of_same rfl rfl rfl rfl)
      (.ofChange hx (by simp [hq, CState.isWash]) rfl)
  · exact .refl s

theorem fillAbortOn_sameWashes : s.SameWashes (fillAbortOn x s).1 := by
  have idle : s.SameWashes (s.setFillUnit FillUnit.idle) := .of_same rfl rfl rfl rfl
  unfold fillAbortOn
  split
  next hq _ =>
    have old : x.record.state.isWash = false := by simp [hq, CState.isWash]
    split
    · exact idle.trans (.ofChange hx old rfl)
    · exact idle.trans (.ofChange hx old rfl)
  · exact .refl s

end

/-- A pulse of the rack's meter (R135). -/
theorem State.rackPulse_sameWashes (s : State) : s.SameWashes s.rackPulse := by
  unfold State.rackPulse
  split
  · exact .refl s
  next r _ =>
    split
    · exact .refl s
    next c hc =>
      split
      next f hq _ =>
        have old : c.state.isWash = false := by simp [hq, CState.isWash]
        have joined (b : Bool) : s.SameWashes (if b then s.joinOverfill else s) := by
          split
          · exact .of_same rfl rfl rfl rfl
          · exact .refl s
        have kept (b : Bool) : (if b then s.joinOverfill else s).ret.pool[r] = some c := by split <;> exact hc
        simp only
        split
        · exact (joined _).trans (.ofChange (kept _) old old)
        · refine (joined _).trans (.ofRecord (kept _) ?_ rfl rfl rfl rfl)
          rfl
      · exact .refl s

/-- The STOPPED update (R137). -/
theorem State.stoppedStep_sameWashes (s : State) : s.SameWashes s.stoppedStep := by
  have taken : s.SameWashes (s.setFillUnit { s.act.fillUnit with stopDue := false }) := .of_same rfl rfl rfl rfl
  unfold State.stoppedStep
  split
  · simp only
    split
    · exact taken
    · refine taken.trans (.transition _ _ (by simp [CState.isWash]) (fun c hc => ?_))
      have hq : c.state = .filling := by simpa using hc
      simp [Compartment.stopped, hq, CState.isWash]
  · exact .refl s

/-! ## Lines, instruments and settings -/

theorem State.joinHold_sameWashes (s : State) (p : Position) (l : Line) : s.SameWashes (s.joinHold p l) := by
  unfold State.joinHold State.rackHeld
  simp only
  split
  · split <;> exact .of_same rfl rfl rfl rfl
  · exact .of_same rfl rfl rfl rfl

theorem State.lineAction_sameWashes (s : State) (l : Line) (a : Action) : s.SameWashes (s.lineAction l a) := by
  cases a with
  | note => exact .refl s
  | holdBay b => exact s.joinHold_sameWashes (.bay b) l
  | holdAll =>
    exact (s.joinHold_sameWashes (.bay 0) l).trans <| (State.joinHold_sameWashes _ (.bay 1) l).trans <|
      (State.joinHold_sameWashes _ (.bay 2) l).trans (State.joinHold_sameWashes _ (.bay 3) l)
  | stopRack => exact s.joinHold_sameWashes .rack l
  | blockGrants => exact .of_same rfl rfl rfl rfl

theorem State.lineBecomesActive_sameWashes (s : State) (l : Line) (e : Route) :
    s.SameWashes (s.lineBecomesActive l e) := by
  unfold State.lineBecomesActive State.lineNotices
  split
  · exact .refl s
  · refine (s.lineAction_sameWashes l _).trans (.foldl (fun t p => ?_) _ _)
    split
    · exact .of_same rfl rfl rfl rfl
    · exact .refl t

theorem State.sampleLine_sameWashes (s : State) (l : Line) (level : Level) : s.SameWashes (s.sampleLine l level) := by
  have sampled (f : Filter) : s.SameWashes (s.setLine l f) := .of_same rfl rfl rfl rfl
  unfold State.sampleLine
  simp only
  split_ifs
  · exact (sampled _).trans (State.lineBecomesActive_sameWashes _ l _)
  · exact .of_same rfl rfl rfl rfl
  · exact sampled _

theorem resumeAt_sameWashes (p : Position) (s : State) : s.SameWashes (resumeAt p s).1 := by
  unfold resumeAt
  split
  · exact .refl s
  · exact .of_same rfl rfl rfl rfl

theorem State.reroute_sameWashes (s : State) (l : Line) (e : Route) : s.SameWashes (s.reroute l e) := by
  have routed : s.SameWashes (s.setRoute l e) := .of_same rfl rfl rfl rfl
  have trimmed : s.SameWashes ((s.setRoute l e).trimPending l (s.ret.routes[l]).notify e.notify) := by
    refine routed.trans (.foldl (fun t p => ?_) _ _)
    split
    · exact .of_same rfl rfl rfl rfl
    · exact .refl t
  have blocked (member : Bool) := trimmed.trans
    (.of_same (t := State.setBlockLine _ l member) rfl rfl rfl rfl)
  unfold State.reroute
  simp only
  split
  · exact (blocked _).trans (State.lineBecomesActive_sameWashes _ l e)
  · exact blocked _

theorem State.supplySample_sameWashes (s : State) (sample : Option Nat) : s.SameWashes (s.supplySample sample) := by
  unfold State.supplySample
  split
  · exact .refl s
  · refine ⟨rfl, fun b => ?_, fun _ => rfl, fun _ r _ => State.ownerBinding_congr rfl r⟩
    simp only [mapTable_eq_map, Fin.getElem_fin, Vector.getElem_map]
    rfl

theorem State.ageStep_sameWashes (s : State) : s.SameWashes s.ageStep := by
  refine ⟨rfl, fun b => ?_, fun _ => rfl, fun _ r _ => State.ownerBinding_congr rfl r⟩
  simp only [State.ageStep, mapTable_eq_map, Fin.getElem_fin, Vector.getElem_map]
  rfl

/-- A pulse of a bay's meter is counted in its interval only (R85). -/
theorem State.bayPulse_sameWashes (s : State) (b : Bay) : s.SameWashes (s.bayPulse b) := by
  unfold State.bayPulse
  simp only
  split
  · exact .refl s
  · refine ⟨rfl, fun b' => ?_, fun _ => rfl, fun _ r _ => State.ownerBinding_congr rfl r⟩
    rw [State.setUnit_units, table_set]
    split
    next hb => rw [hb]; rfl
    · rfl

theorem State.samplePulse_sameWashes (s : State) (m : Position) (level : Level) :
    s.SameWashes (s.samplePulse m level) := by
  have sampled (c : PulseChannel) : s.SameWashes (s.setPulse m c) := .of_same rfl rfl rfl rfl
  unfold State.samplePulse
  simp only
  split
  · cases m with
    | bay b => exact (sampled _).trans (State.bayPulse_sameWashes _ b)
    | rack => exact (sampled _).trans (State.rackPulse_sameWashes _)
  · exact sampled _

theorem State.sweepStep_sameWashes (s : State) (b : Bay) : s.SameWashes (s.sweepStep b) := by
  unfold State.sweepStep
  simp only
  split
  · exact .of_same rfl rfl rfl rfl
  · exact .refl s

/-- A conversion: the wash units' supply temperatures, the arbiter's pressure, or a bay's endpoint (R104). -/
theorem State.Washes.convert (h : s.Washes) (ch : Probe) (code : Code) : (s.convert ch code).Washes := by
  unfold State.convert State.deliverSample
  split
  · have moved : s.SameWashes ({ s with act := { s.act with scanNext := ch + 1 } }.setSlot ch
        ((s.act.slots[ch]).converted ch code)) := .of_same rfl rfl rfl rfl
    split_ifs
    · exact (moved.trans (State.supplySample_sameWashes _ _)).washes h
    · refine (moved.trans ?_).washes h
      exact .of_same rfl rfl rfl rfl
    · exact (moved.washes h).conductivitySample _ _
  · exact h

theorem State.storeSetting_sameWashes (s : State) (i : Fin 25) (v : Nat) :
    s.SameWashes ((s.storeSetting i v).settingEffect i v) := by
  have stored : s.SameWashes (s.storeSetting i v) := .of_same rfl rfl rfl rfl
  refine stored.trans ?_
  unfold State.settingEffect
  split
  · exact .of_same rfl rfl rfl rfl
  · split
    · exact .refl _
    · simp only
      split
      · exact .of_same rfl rfl rfl rfl
      · exact .refl _

end Sys2Proof.Machine
end

section
/-! # Every step keeps the law of the wash units -/

namespace Sys2Proof.Machine

variable {s t : State}

/-! ## What a step rests on -/

/-- What the law of the wash units rests on in a powered part: the yard table, and the queue's entries standing for
their bays' compartments (R1, R3, R12, R68). -/
structure State.WashGround (s : State) : Prop where
  power : s.mainPower = true
  marker : s.ret.markerValid = true
  table : s.YardTableLaw
  washes : s.Washes
  queue : ∀ e ∈ s.act.arbiter.queue, (s.act.units[e.bay]).active = some e.ref

/-- The laws of a powered part give it. -/
theorem State.Sound.washGround (h : s.Sound) (hp : s.mainPower = true) : s.WashGround where
  power := hp
  marker := h.ranges.marker hp
  table := h.table
  washes := s.washLaw_iff.mp h.washing hp
  queue := fun e he =>
    have ⟨_, _, entries, _⟩ := h.loop hp
    (entries e he).1

namespace State.WashGround

/-- It is read off the retained domain, the units, the queue and main power. -/
theorem of_same (g : s.WashGround) (ret : t.ret = s.ret) (units : t.act.units = s.act.units)
    (arbiter : t.act.arbiter = s.act.arbiter) (power : t.mainPower = s.mainPower) : t.WashGround := by
  have washes : t.Washes := g.washes.of_same (by rw [ret]) (by rw [ret]) units power
  obtain ⟨hp, marker, table, -, queue⟩ := g
  obtain ⟨sret, sact, spower, _, _⟩ := s
  obtain ⟨tret, tact, tpower, _, _⟩ := t
  subst ret power
  dsimp only at units arbiter
  refine ⟨hp, marker, table, washes, ?_⟩
  simpa only [units, arbiter] using queue

theorem setPort (g : s.WashGround) (p : Port) (x : PortState) : (s.setPort p x).WashGround := g.of_same rfl rfl rfl rfl

end State.WashGround

/-! ## The tanker of a record (R3, R12) -/

/-- A listed record's tanker is the one that lists it, and its binding is that tanker's. -/
theorem State.WashGround.ownerBinding_of_listed (g : s.WashGround) {i : Slot} {x : Tanker}
    (hx : s.ret.tankers[i] = some x) {r : RecordRef} (hr : r ∈ x.compartments) : s.ownerBinding r = x.binding := by
  obtain ⟨-, -, -, -, apart, -, -⟩ := g.table g.marker
  have found : s.ownerSlot r = some i := by
    cases hf : s.ownerSlot r with
    | none =>
      have := List.find?_eq_none.mp hf i (List.mem_finRange i)
      simp [show s.ret.tankers[i.val] = some x from hx, hr] at this
    | some j =>
      have := List.find?_some hf
      split at this
      next y hy =>
        by_cases hij : i = j
        · rw [hij]
        · exact absurd (by simpa using this) ((apart i j hij x hx y hy).2 r hr)
      · cases this
  rw [State.ownerBinding, found, Option.bind_some, hx, Option.bind_some]

/-- A compartment named through a position belongs to the tanker bound there (R12, R16). -/
theorem State.WashGround.ownerBinding_of_nameBound (g : s.WashGround) {pos : Position} {n : Nat} {x : Named}
    (h : s.nameBound pos n = .ok x) : s.ownerBinding x.ref = some pos := by
  obtain ⟨-, -, -, -, -, bound, -⟩ := g.table g.marker
  unfold State.nameBound at h
  split at h
  · cases h
  next i y hy =>
    obtain ⟨hpos, hi⟩ := State.of_boundTanker hy
    split at h
    next hc =>
      cases h
      obtain ⟨-, -, hr, -⟩ := State.compartmentOf_some.mp hc
      obtain ⟨z, hz, q, hq, e⟩ := bound pos.index i hpos
      cases hi.symm.trans hz
      rw [g.ownerBinding_of_listed hi (List.mem_of_getElem? hr), hq, Position.index_injective _ _ e]
    · cases h

/-- The slot of the tanker that lists a record (R3). -/
theorem State.ownerSlot_eq (s : State) (r : RecordRef) : s.ownerSlot r
    = (List.finRange 12).find? (fun i => (s.ret.tankers[i]).any (fun x => x.compartments.contains r)) := by
  unfold State.ownerSlot
  congr 1
  funext i
  cases s.ret.tankers[i] <;> rfl

/-- A record's binding is as it was where the one tanker slot written lists it neither before nor after. -/
theorem State.ownerBinding_of_unlisted {i : Slot} {o : Option Tanker} {r : RecordRef}
    (tankers : t.ret.tankers = s.ret.tankers.set i o) (old : ∀ x, s.ret.tankers[i] = some x → r ∉ x.compartments)
    (new : ∀ x, o = some x → r ∉ x.compartments) : t.ownerBinding r = s.ownerBinding r := by
  have tankerAt (j : Slot) : t.ret.tankers[j] = if j = i then o else s.ret.tankers[j] := by rw [tankers, table_set]
  have unlisted {o : Option Tanker} (h : ∀ x, o = some x → r ∉ x.compartments) :
      o.any (fun x => x.compartments.contains r) = false := by
    cases o with
    | none => rfl
    | some x => simpa using h x rfl
  have lists (j : Slot) : (t.ret.tankers[j]).any (fun x => x.compartments.contains r)
      = (s.ret.tankers[j]).any (fun x => x.compartments.contains r) := by
    rw [tankerAt]
    split
    next hj => rw [unlisted new, hj, unlisted old]
    · rfl
  have slot : t.ownerSlot r = s.ownerSlot r := by
    rw [State.ownerSlot_eq, State.ownerSlot_eq]
    exact congrArg (List.find? · _) (funext lists)
  rw [State.ownerBinding, State.ownerBinding, slot]
  cases hf : s.ownerSlot r with
  | none => rfl
  | some j =>
    have hj : j ≠ i := by
      rintro rfl
      have := List.find?_some hf
      split at this
      next x hx => exact old x hx (by simpa using this)
      · cases this
    rw [Option.bind_some, Option.bind_some, tankerAt, if_neg hj]

/-- One tanker slot written, neither the tanker before nor the one after listing a unit's compartment. -/
theorem State.SameWashes.ofTanker {i : Slot} {o : Option Tanker} (power : t.mainPower = s.mainPower)
    (units : t.act.units = s.act.units)
    (records : ∀ r : RecordRef, (t.ret.pool[r]).bind Compartment.washPart = (s.ret.pool[r]).bind Compartment.washPart)
    (tankers : t.ret.tankers = s.ret.tankers.set i o)
    (old : ∀ (b : Bay) r, (s.act.units[b]).active = some r → ∀ x, s.ret.tankers[i] = some x → r ∉ x.compartments)
    (new : ∀ (b : Bay) r, (s.act.units[b]).active = some r → ∀ x, o = some x → r ∉ x.compartments) :
    s.SameWashes t :=
  ⟨power, fun b => by rw [units], records,
    fun b r hr => State.ownerBinding_of_unlisted tankers (old b r hr) (new b r hr)⟩

/-! ## Requests about tankers -/

namespace State.WashGround

variable (g : s.WashGround)

include g

/-- A tanker at no bay lists no unit's compartment. -/
theorem unlisted_of_binding {i : Slot} {x : Tanker} (hx : s.ret.tankers[i] = some x)
    (hb : ∀ b, x.binding ≠ some (.bay b)) (b : Bay) (r : RecordRef) (hr : (s.act.units[b]).active = some r) :
    r ∉ x.compartments :=
  fun hin => hb b ((g.ownerBinding_of_listed hx hin).symm.trans (g.washes.unit b r hr).2)

/-- A record free in the table is no unit's compartment. -/
theorem unit_not_free {b : Bay} {r : RecordRef} (hr : (s.act.units[b]).active = some r) : r ∉ s.ret.freeList := by
  obtain ⟨-, free, -⟩ := g.table g.marker
  obtain ⟨⟨c, hc, -⟩, -⟩ := g.washes.unit b r hr
  rw [← free, hc]
  simp

/-- A departure (R11): the records freed are in no wash state. -/
theorem depart {i : Slot} {x : Tanker} (hx : s.ret.tankers[i] = some x) (hb : x.binding = none) :
    s.SameWashes (s.depart i x) := by
  have unlisted := g.unlisted_of_binding hx (by simp [hb])
  rw [State.depart_eq]
  refine .ofTanker rfl rfl (fun r => ?_) rfl (fun b r hr y hy => ?_) (fun _ _ _ y hy => by cases hy)
  · change ((x.compartments.foldl (fun v (r : RecordRef) => v.set r none) s.ret.pool)[r]).bind _ = _
    rw [table_foldl_set]
    split
    next hin =>
      cases hc : s.ret.pool[r] with
      | none => rfl
      | some c =>
        refine (Compartment.washPart_eq_none ?_).symm
        by_contra hw
        obtain ⟨b, hb⟩ := g.washes.some_unit r c hc (by simpa using hw)
        exact unlisted b r hb hin
    · rfl
  · cases hx.symm.trans hy
    exact unlisted b r hr

/-- A free tanker bound (R12, R13). -/
theorem bindTanker {i : Slot} {x : Tanker} (hx : s.ret.tankers[i] = some x) (hb : x.binding = none) (p : Position) :
    s.SameWashes (s.bindTanker p i x) := by
  have unlisted := g.unlisted_of_binding hx (by simp [hb])
  refine .ofTanker rfl rfl (fun _ => rfl) rfl (fun b r hr y hy => ?_) (fun b r hr y hy => ?_)
  · cases hx.symm.trans hy
    exact unlisted b r hr
  · cases hy
    exact unlisted b r hr

/-- A tanker unbound: at a bay none of its compartments is in a wash state (R14, R15). -/
theorem unbindTanker {p : Position} {i : Slot} {x : Tanker} (hp : s.binding p = some i)
    (hx : s.ret.tankers[i] = some x) (ho : s.anyOfTanker x (undockRefusedBy p) = false) :
    s.SameWashes (s.unbindTanker p i x) := by
  obtain ⟨-, -, -, -, -, bound, -⟩ := g.table g.marker
  have unlisted (b : Bay) (r : RecordRef) (hr : (s.act.units[b]).active = some r) : r ∉ x.compartments := by
    intro hin
    obtain ⟨⟨c, hc, hw⟩, owner⟩ := g.washes.unit b r hr
    obtain ⟨y, hy, q, hq, e⟩ := bound p.index i hp
    cases hx.symm.trans hy
    rw [g.ownerBinding_of_listed hx hin] at owner
    cases owner.symm.trans hq
    cases Position.index_injective _ _ e
    rw [Bool.eq_false_iff] at ho
    exact ho ((State.anyOfTanker_iff x _).mpr ⟨r, hin, c, hc, hw⟩)
  refine .ofTanker rfl rfl (fun _ => rfl) rfl (fun b r hr y hy => ?_) (fun b r hr y hy => ?_)
  · cases hx.symm.trans hy
    exact unlisted b r hr
  · cases hy
    exact unlisted b r hr

omit g in
/-- New records written where no compartment is in a wash state. -/
theorem admitRecords (n : Nat) (xs : List (RecordRef × Nat × List ClassNo))
    (fresh : ∀ x ∈ xs, (s.ret.pool[x.1]).bind Compartment.washPart = none) : s.SameWashes (s.admitRecords n xs) := by
  induction xs generalizing s n with
  | nil => exact .refl s
  | cons x xs ih =>
    obtain ⟨r, capacity, history⟩ := x
    have dirty : (newCompartment (n + 1) capacity history).washPart = none := rfl
    have written : s.SameWashes (s.changeRecord r (newCompartment (n + 1) capacity history)) :=
      .ofWrite (dirty.trans (fresh (r, capacity, history) (by simp)).symm) (State.changeRecord_pool _ _ _)
        (State.changeRecord_tankers _ _ _) (State.changeRecord_units _ _ _)
        (State.changeRecord_mainPower _ _ _)
    exact written.trans (ih (n + 1) fun y hy => (written.records y.1).trans (fresh y (by simp [hy])))

/-- A tanker taken in: its records were free (R10). -/
theorem admitTanker {i : Slot} (hi : s.ret.tankers[i] = none) (token : List Byte) (cs : List (Nat × List ClassNo)) :
    s.SameWashes (s.admitTanker i token cs) := by
  obtain ⟨-, free, -⟩ := g.table g.marker
  have listed : s.SameWashes { s with ret := { s.ret with
      tankers := s.ret.tankers.set i (some ⟨token, s.ret.clock, s.ret.freeList.take cs.length, none⟩)
      freeList := s.ret.freeList.drop cs.length } } := by
    refine .ofTanker rfl rfl (fun _ => rfl) rfl (fun b r hr y hy => ?_) (fun b r hr y hy => ?_)
    · rw [hi] at hy; cases hy
    · cases hy
      exact fun hin => g.unit_not_free hr (List.mem_of_mem_take hin)
  refine listed.trans (admitRecords 0 _ fun x hx => ?_)
  have unused := (free x.1).mpr (List.mem_of_mem_take (List.of_mem_zip hx).1)
  change (s.ret.pool[x.1]).bind _ = none
  rw [Option.isNone_iff_eq_none.mp unused]
  rfl

/-! ## The wash cycle's requests -/

/-- START-WASH: the bay's unit was idle, and no unit held the DIRTY compartment (R45, R46). -/
theorem startWashOn {b : Bay} {n : Nat} {x : Named} (hx : s.nameBound (.bay b) n = .ok x) :
    (startWashOn b x s).1.Washes := by
  have hc := State.record_of_nameBound hx
  unfold Machine.startWashOn
  split_ifs with hq hu
  · exact g.washes
  · exact g.washes
  · exact g.washes
  · split
    · exact g.washes
    · have idle : (s.act.units[b]).active = none := by simpa using hu
      have dirty : x.record.state = .dirty := by
        rw [not_or, not_not] at hq
        exact hq.1
      refine g.washes.moveTo (State.changeRecord_pool _ _ _) (State.changeRecord_tankers _ _ _)
        (State.changeRecord_units _ _ _) (fun k hk => ?_) (fun b' _ hb => ?_) rfl
        (fun _ => g.ownerBinding_of_nameBound hx)
        ((g.washes.fits_none idle).enterQueued (fun d hd => by cases hd) _ _ _ _)
      · rw [idle] at hk; cases hk
      · obtain ⟨⟨c, hc', hw⟩, -⟩ := g.washes.unit b' _ hb
        cases hc.symm.trans hc'
        rw [dirty] at hw
        cases hw

/-- PHASE-GO (R52). -/
theorem phaseGoOn {x : Named} (hx : s.ret.pool[x.ref] = some x.record) : (phaseGoOn x s).1.Washes := by
  unfold Machine.phaseGoOn
  split
  next hq _ hu =>
    split
    · exact g.washes
    · exact g.washes.enterQueued (State.of_unitOf hu) hx (by simp [hq]) _ _
  · exact g.washes

end State.WashGround

end Sys2Proof.Machine
end

section
namespace Sys2Proof.Machine

variable {s t : State}

/-! ## Requests -/

namespace State.WashGround

section

variable (g : s.WashGround) (p : Port) (body : List Byte)

include g

theorem ownStartWash : (ownStartWash p body s).1.Washes := by
  unfold Machine.ownStartWash
  split
  · split
    · exact g.washes
    next hx => exact g.startWashOn hx
  · exact g.washes

theorem ownPhaseGo : (ownPhaseGo p body s).1.Washes := by
  unfold Machine.ownPhaseGo
  split
  · split
    · exact g.washes
    next hx => exact g.phaseGoOn (State.record_of_nameBound hx)
  · exact g.washes

theorem ownAbortWash : (ownAbortWash p body s).1.Washes := by
  unfold Machine.ownAbortWash
  split
  · split
    · exact g.washes
    next hx =>
      split
      next hw => exact g.washes.stopWash (State.record_of_nameBound hx) hw _
      · exact g.washes
  · exact g.washes

theorem ownCancelWash : (ownCancelWash p body s).1.Washes := by
  unfold Machine.ownCancelWash
  split
  · split
    · exact g.washes
    next hx =>
      split
      next hw => exact g.washes.stopWash (State.record_of_nameAtSlot hx) hw _
      · exact g.washes
  · exact g.washes

theorem ownAdmit : s.SameWashes (ownAdmit p body s).1 := by
  unfold Machine.ownAdmit
  split
  · exact .refl s
  · split
    · exact .refl s
    · split
      · exact .refl s
      · split
        · split
          · exact .refl s
          · split
            · exact .refl s
            · split
              · exact .refl s
              next hi =>
                split
                · exact .refl s
                · exact g.admitTanker (State.of_freeSlot hi) _ _
        · exact .refl s

theorem ownDepart : s.SameWashes (ownDepart p body s).1 := by
  unfold Machine.ownDepart
  split
  · split
    · exact .refl s
    next hx =>
      split_ifs with hb
      · exact .refl s
      · exact .refl s
      · exact g.depart (State.of_tankerAt hx).2 (by simpa using hb)
  · exact .refl s

theorem ownDock : s.SameWashes (ownDock p body s).1 := by
  unfold Machine.ownDock
  split
  · exact .refl s
  · split
    · exact .refl s
    · split
      · exact .refl s
      next hx =>
        unfold dockAt
        split_ifs with _ hb
        · exact .refl s
        · exact .refl s
        · exact .refl s
        · exact g.bindTanker hx (by simpa using (not_or.mp hb).1) _

theorem ownUndock : s.SameWashes (ownUndock p body s).1 := by
  unfold Machine.ownUndock
  split
  · exact .refl s
  · split
    · exact .refl s
    next hx =>
      obtain ⟨hp, hi⟩ := State.of_boundTanker hx
      split
      · exact .refl s
      next ho => exact g.unbindTanker hp hi (by simpa using ho)

end

end State.WashGround

section

variable (p : Port) (body : List Byte)

theorem ownAckLine_sameWashes : s.SameWashes (ownAckLine p body s).1 := by
  unfold ownAckLine
  split
  · split
    · exact .refl s
    · split <;> exact .of_same rfl rfl rfl rfl
  · exact .refl s

theorem ownResume_sameWashes : s.SameWashes (ownResume p body s).1 := by
  unfold ownResume
  split
  · exact resumeAt_sameWashes _ s
  · split
    · exact .refl s
    · exact resumeAt_sameWashes _ s
  · exact .refl s

theorem ownSetIntent_sameWashes : s.SameWashes (ownSetIntent p body s).1 := by
  unfold ownSetIntent
  split
  · split
    · exact .refl s
    next hx => exact setIntentOn_sameWashes (State.record_of_nameAtSlot hx) _
  · exact .refl s

theorem ownEmptied_sameWashes : s.SameWashes (ownEmptied p body s).1 := by
  unfold ownEmptied
  split
  · split
    · exact .refl s
    next hx =>
      split
      · exact .refl s
      next hq =>
        exact .ofChange (State.record_of_nameAtSlot hx) (by simp [not_not.mp hq, CState.isWash]) rfl
  · exact .refl s

theorem ownVoidRelease_sameWashes : s.SameWashes (ownVoidRelease p body s).1 := by
  unfold ownVoidRelease
  split
  · split
    · exact .refl s
    next hx =>
      split
      · exact .refl s
      next hq =>
        exact .ofChange (State.record_of_nameAtSlot hx) (by simp [not_not.mp hq, CState.isWash]) rfl
  · exact .refl s

theorem ownInspectPass_sameWashes : s.SameWashes (ownInspectPass p body s).1 := by
  unfold ownInspectPass
  split
  · split
    · exact .refl s
    next hx => exact inspectPassOn_sameWashes (State.record_of_nameBound hx) _
  · exact .refl s

theorem ownInspectFail_sameWashes : s.SameWashes (ownInspectFail p body s).1 := by
  unfold ownInspectFail
  split
  · split
    · exact .refl s
    next hx => exact inspectFailOn_sameWashes (State.record_of_nameBound hx) _
  · exact .refl s

theorem ownFillStart_sameWashes : s.SameWashes (ownFillStart p body s).1 := by
  unfold ownFillStart
  split
  · split
    · exact .refl s
    next hx => exact fillStartOn_sameWashes (State.record_of_nameBound hx) _ _
  · exact .refl s

theorem ownFillEnd_sameWashes : s.SameWashes (ownFillEnd p body s).1 := by
  unfold ownFillEnd
  split
  · split
    · exact .refl s
    next hx => exact fillEndOn_sameWashes (State.record_of_nameBound hx) _
  · exact .refl s

theorem ownFillAbort_sameWashes : s.SameWashes (ownFillAbort p body s).1 := by
  unfold ownFillAbort
  split
  · split
    · exact .refl s
    next hx => exact fillAbortOn_sameWashes (State.record_of_nameBound hx)
  · exact .refl s

theorem ownWriteClass_sameWashes : s.SameWashes (ownWriteClass p body s).1 := by
  unfold ownWriteClass
  split
  · split
    · exact .refl s
    · split <;> split <;> exact .of_same rfl rfl rfl rfl
  · exact .refl s

theorem ownWriteProgram_sameWashes : s.SameWashes (ownWriteProgram p body s).1 := by
  unfold ownWriteProgram
  split
  · split_ifs
    · exact .refl s
    · exact .refl s
    · split
      · split
        · exact .refl s
        · exact .of_same rfl rfl rfl rfl
      · exact .refl s
  · exact .refl s

theorem ownWriteFollow_sameWashes : s.SameWashes (ownWriteFollow p body s).1 := by
  unfold ownWriteFollow
  split
  · split
    · exact .refl s
    · split
      · exact .of_same rfl rfl rfl rfl
      · exact .refl s
  · exact .refl s

theorem ownWriteRoute_sameWashes : s.SameWashes (ownWriteRoute p body s).1 := by
  unfold ownWriteRoute
  split
  · split
    · split
      · exact .refl s
      · exact s.reroute_sameWashes _ _
    · exact .refl s
  · exact .refl s

theorem ownWriteSetting_sameWashes : s.SameWashes (ownWriteSetting p body s).1 := by
  unfold ownWriteSetting
  split
  · split
    · exact .refl s
    · exact s.storeSetting_sameWashes _ _
  · exact .refl s

theorem ownReadRoute_sameWashes : s.SameWashes (ownReadRoute p body s).1 := by
  unfold ownReadRoute
  split
  · split
    · exact .refl s
    · exact .of_same rfl rfl rfl rfl
  · exact .refl s

theorem ownSetClock_sameWashes : s.SameWashes (ownSetClock p body s).1 := by
  unfold ownSetClock
  split
  · exact s.setClockTo_sameWashes _
  · exact .refl s

theorem ownOpenYard_sameWashes : s.SameWashes (ownOpenYard p body s).1 := by
  unfold ownOpenYard
  split
  · exact .refl s
  · exact State.SameWashes.trans (t := s.openMode) (.of_same rfl rfl rfl rfl) (State.lapseAll_sameWashes _)

end

namespace State.WashGround

section

variable (g : s.WashGround)

include g

/-- The owner of each kind keeps the law: the wash cycle's requests move a unit with its record, and every other leaves
the washes as they are. -/
theorem owner (k : Kind) (p : Port) (body : List Byte) : (owner k p body s).1.Washes := by
  have same {t : State} (h : s.SameWashes t) : t.Washes := h.washes g.washes
  by_cases hk : k.reports = true
  · rw [owner_of_reports p body hk]
    exact g.washes
  · cases k <;> try exact absurd rfl hk
    case startWash => exact g.ownStartWash p body
    case phaseGo => exact g.ownPhaseGo p body
    case abortWash => exact g.ownAbortWash p body
    case cancelWash => exact g.ownCancelWash p body
    case events => exact same (.of_same rfl rfl rfl rfl)
    case yardReset => exact same (.of_same rfl rfl rfl rfl)
    case ackLine => exact same (ownAckLine_sameWashes p body)
    case resume => exact same (ownResume_sameWashes p body)
    case admitTanker => exact same (g.ownAdmit p body)
    case depart => exact same (g.ownDepart p body)
    case dock => exact same (g.ownDock p body)
    case undock => exact same (g.ownUndock p body)
    case setIntent => exact same (ownSetIntent_sameWashes p body)
    case emptied => exact same (ownEmptied_sameWashes p body)
    case voidRelease => exact same (ownVoidRelease_sameWashes p body)
    case inspectPass => exact same (ownInspectPass_sameWashes p body)
    case inspectFail => exact same (ownInspectFail_sameWashes p body)
    case fillStart => exact same (ownFillStart_sameWashes p body)
    case fillEnd => exact same (ownFillEnd_sameWashes p body)
    case fillAbort => exact same (ownFillAbort_sameWashes p body)
    case writeClass => exact same (ownWriteClass_sameWashes p body)
    case writeProgram => exact same (ownWriteProgram_sameWashes p body)
    case writeFollow => exact same (ownWriteFollow_sameWashes p body)
    case writeRoute => exact same (ownWriteRoute_sameWashes p body)
    case writeSetting => exact same (ownWriteSetting_sameWashes p body)
    case readRoute => exact same (ownReadRoute_sameWashes p body)
    case setClock => exact same (ownSetClock_sameWashes p body)
    case openYard => exact same (ownOpenYard_sameWashes p body)

/-! ### Through the port -/

/-- A request taken: what its owner leaves, with the answer being sent (R163, R164). -/
theorem take (p : Port) (f : Frame) : (s.take p f).Washes := by
  have served : (serve p f s).1.Washes := by
    unfold serve
    split
    · exact g.washes
    · split
      · exact g.washes
      · exact g.owner _ p f.body
  exact served.of_same rfl rfl rfl rfl

theorem frameCompletes (p : Port) (f : Frame) : (s.frameCompletes p f).Washes := by
  unfold State.frameCompletes
  split_ifs
  · exact (g.setPort p _).washes
  · exact (g.setPort p _).washes
  · exact (g.setPort p _).washes
  · exact g.take p f

theorem answerSent (p : Port) : (s.answerSent p).Washes := by
  unfold State.answerSent
  split
  · exact g.washes
  · split
    · exact g.washes.of_same rfl rfl rfl rfl
    · split
      · exact (g.setPort p _).washes
      · split
        · exact (g.setPort p _).washes
        · exact (g.setPort p _).take p _

theorem receiveByte (p : Port) (x : Byte) (err : Bool) : (s.receiveByte p x err).Washes := by
  unfold State.receiveByte
  split
  · split
    · exact (g.setPort p _).washes
    · exact g.washes
  · split
    · exact ((g.setPort p _).setPort p _).washes
    · split
      · exact ((g.setPort p _).setPort p _).washes
      · exact (g.setPort p _).washes
      · exact (g.setPort p _).frameCompletes p _

theorem gap (p : Port) : (s.gap p).Washes := by
  unfold State.gap
  split
  · exact g.washes
  · exact ((g.setPort p _).setPort p _).washes

end

end State.WashGround

/-! ## The starts and the losses -/

/-- Units just started, with no record in a wash state, keep the law (R20, R65). -/
theorem State.Washes.of_started (units : ∀ b : Bay, s.act.units[b] = WashUnit.start)
    (records : ∀ (r : RecordRef) c, s.ret.pool[r] = some c → c.state.isWash = false) : s.Washes := by
  have idle (b : Bay) : (s.act.units[b]).active = none := by rw [units]; rfl
  refine ⟨fun b r hr => ?_, fun r c hc hw => ?_, fun b _ _ r hr => ?_, fun b => ?_⟩
  · rw [idle] at hr; cases hr
  · rw [records r c hc] at hw; cases hw
  · rw [idle] at hr; cases hr
  · rw [State.unitRecord, idle, units]
    exact WashUnit.idle_fits WashUnit.start

/-- After the step of R170 no record is in a wash state (R20). -/
theorem State.recover_washes (s : State) : s.recover.Washes := by
  refine .of_started (fun b => by simp [State.recover, Active.start]) (fun r c hc => ?_)
  have pool : s.recover.ret.pool[r] = (s.ret.pool[r]).map Compartment.mapped := by
    simp [State.recover, Retained.mapped, mapTable_eq_map]
  obtain ⟨d, -, rfl⟩ := Option.map_eq_some_iff.mp (pool.symm.trans hc)
  unfold Compartment.mapped
  split
  · rfl
  next hw =>
    split
    · rfl
    · simpa using hw

theorem State.coldStart_washes (s : State) : s.coldStart.Washes :=
  .of_started (fun b => by simp [State.coldStart, Active.start])
    (fun r c hc => by simp [State.coldStart, Retained.coldStart] at hc)

/-! ## Every step keeps the law -/

/-- The part does nothing without main power (R168). -/
theorem whenPowered_washLaw {f : State → State} (law : s.WashLaw) (hf : s.mainPower = true → (f s).Washes) :
    (whenPowered s f).WashLaw := by
  unfold whenPowered
  split
  next hp => exact (State.washLaw_iff _).mpr fun _ => hf hp
  · exact law

/-- Every command completes and keeps the law, from a state that keeps what the law rests on. -/
theorem exec_washLaw (law : s.WashLaw) (ground : s.mainPower = true → s.WashGround) (i : Instr) :
    ∃ t, exec i s = .next t ∧ t.WashLaw := by
  have powered {f : State → State} (hf : s.WashGround → (f s).Washes) : (whenPowered s f).WashLaw :=
    whenPowered_washLaw law fun hp => hf (ground hp)
  have same {f : State → State} (hf : s.SameWashes (f s)) : (whenPowered s f).WashLaw :=
    powered fun g => hf.washes g.washes
  cases h : i.request? with
  | some q =>
    rw [← requestOf_of_request h]
    exact ⟨_, exec_requestOf _ _ _ _ s, powered fun g => g.frameCompletes _ _⟩
  | none =>
    cases i with
    | yardResetEffect =>
      refine ⟨_, rfl, powered fun g => ?_⟩
      split
      · exact g.washes
      · exact s.recover_washes
    | coldStart =>
      refine ⟨_, rfl, ?_⟩
      split
      · exact (State.washLaw_iff _).mpr fun _ => s.coldStart_washes
      · exact law
    | powerReturn =>
      refine ⟨_, rfl, ?_⟩
      split
      · exact (State.washLaw_iff _).mpr fun _ => s.recover_washes
      · exact law
    | mainPowerLoss =>
      refine ⟨_, rfl, ?_⟩
      unfold State.losePower
      split
      · exact fun hp => by cases hp
      · exact law
    | backupSupplyLoss =>
      refine ⟨_, rfl, ?_⟩
      unfold State.loseBackup
      split
      · exact law
      next off => exact fun hp => absurd hp off
    | requestByteReceived p x err => exact ⟨_, rfl, powered fun g => g.receiveByte p x err⟩
    | interByteTimeout p => exact ⟨_, rfl, powered fun g => g.gap p⟩
    | answerSendComplete p => exact ⟨_, rfl, powered fun g => g.answerSent p⟩
    | scanConversion ch code => exact ⟨_, rfl, powered fun g => g.washes.convert ch code⟩
    | pulseSample m level => exact ⟨_, rfl, same (s.samplePulse_sameWashes m level)⟩
    | lineSample l level => exact ⟨_, rfl, same (s.sampleLine_sameWashes l level)⟩
    | grant => exact ⟨_, rfl, powered fun g => g.washes.grantStep g.queue⟩
    | accountingIntervalClose b => exact ⟨_, rfl, powered fun g => g.washes.closeInterval b⟩
    | phaseTimerTick b => exact ⟨_, rfl, powered fun g => g.washes.phaseTick b⟩
    | phaseTimerExpiry b => exact ⟨_, rfl, powered fun g => g.washes.phaseExpiry b⟩
    | handoverTimerExpiry b => exact ⟨_, rfl, powered fun g => g.washes.handoverExpiry b⟩
    | reEntryTimerExpiry b => exact ⟨_, rfl, powered fun g => g.washes.reEntryExpiry b⟩
    | holdTimerExpiry b => exact ⟨_, rfl, powered fun g => g.washes.holdExpiry b⟩
    | washHold b => exact ⟨_, rfl, powered fun g => g.washes.holdStep b⟩
    | washResume b => exact ⟨_, rfl, powered fun g => g.washes.resumeStep b⟩
    | fillStoppedMark => exact ⟨_, rfl, same s.stoppedStep_sameWashes⟩
    | sweepTick b => exact ⟨_, rfl, same (s.sweepStep_sameWashes b)⟩
    | releaseTimerCheck => exact ⟨_, rfl, same s.timerCheck_sameWashes⟩
    | releaseLapse r => exact ⟨_, rfl, same (s.lapseStep_sameWashes r)⟩
    | yardClockSecond => exact ⟨_, rfl, s.clockSecond_sameWashes.washLaw law⟩
    | ageMillisecond => exact ⟨_, rfl, same s.ageStep_sameWashes⟩
    | _ => cases h

/-- Settles O17: an idle step changes nothing, and every command keeps the law; the other laws are used for the tanker
a compartment belongs to, and for the unit a queue entry stands for. -/
theorem stepKeepsWashLaw : Obligations.StepKeepsWashLaw := by
  intro s t sound hstep
  unfold step at hstep
  split at hstep
  · cases hstep
    exact sound.washing
  next i rest _ =>
    have waiting : s.SameWashes { s with pending := rest } := .of_same rfl rfl rfl rfl
    obtain ⟨u, hu, law⟩ := exec_washLaw (waiting.washLaw sound.washing)
      (fun hp => (sound.washGround hp).of_same rfl rfl rfl rfl) i
    cases hu.symm.trans hstep
    exact law

end Sys2Proof.Machine
end

section
/-! # The wash cycle's requests (R45 to R57) -/

namespace Sys2Proof.Machine

variable {s : State} {b : Bay} {c : Compartment}

/-- A demand asks for a wash when it is WASH or DEEP (R45). -/
theorem asksWash_iff (d : Option Demand) : asksWash d = true ↔ d = some .wash ∨ d = some .deep := by
  rcases d with _ | _ | _ | _ <;> simp [asksWash]

/-- The phase of an index, 1 to the count, is the stored program's (R28). -/
theorem State.phaseOf_eq {k : ProgramNo} (hk : c.program = some k) {n : Nat} (hn : 1 ≤ n) :
    s.phaseOf c n = (s.ret.programs[k])[n - 1]? := by
  simp [State.phaseOf, hk, show n ≠ 0 by omega]

/-- A bay's request about one of its compartments, taken in OPEN, is answered by its owner (R16, R165). -/
theorem exec_bayNamed {t : State} (ready : s.Ready (.bay b)) (hopen : s.IsOpen) {k : Kind}
    (hk : bayEntry k = some (boundEntry 1 false)) {n : Byte} {x : Named} (hx : s.nameBound (.bay b) n.toNat = .ok x)
    (tag : Byte) {r : Reply} (ho : owner k (.bay b) [n] s = (t, r)) :
    exec (requestOf k (.bay b) tag [n]) s = .next (t.replies (.bay b) k tag r.code r.body) :=
  exec_owned ready k tag [n] (by simp)
    (commonCheck_isOpen (e := boundEntry 1 false) hopen hk rfl (fun _ => State.bound_of_nameBound hx)) ho

/-- Settles O31: the refusals are `startWashOn`'s in order, and a taken START-WASH queues the compartment at phase 1
(`State.enterQueued_eq`). -/
theorem startWashQueuesPhaseOne : Obligations.StartWashQueuesPhaseOne := by
  intro b tag n s x ready hopen hx answers
  have answered {t : State} {r : Reply} (ho : startWashOn b x s = (t, r)) :
      exec (.startWash (.bay b) tag [n]) s = .next (t.replies (.bay b) .startWash tag r.code r.body) :=
    exec_bayNamed (k := .startWash) ready hopen rfl hx tag (by simp only [owner, ownStartWash, hx, ho])
  refine ⟨fun hq => answered (r := refuse .state) ?_, fun hq hd => ?_⟩
  · rw [← asksWash_iff, not_and_or, Bool.not_eq_true] at hq
    exact if_pos hq
  · have asked : ¬ (x.record.state ≠ .dirty ∨ asksWash x.record.demand = false) := by
      simp [hq, (asksWash_iff _).mpr hd]
    refine ⟨fun hu => answered (r := refuse .busy) ?_, fun hu hh => answered (r := refuse .held) ?_,
      fun hu hh k hk => ⟨fun hp => answered (r := refuse .cargoClass) ?_, fun ph later hp => ?_⟩⟩
    · exact (if_neg asked).trans (if_pos (Option.isSome_iff_ne_none.mpr hu))
    · simp only [startWashOn, if_neg asked, hu, hh, Option.isSome_none, Bool.false_eq_true, if_false, if_true]
    · have phase : s.phaseOf x.record 1 = none := by rw [State.phaseOf_eq hk (le_refl 1), hp]; rfl
      simp only [startWashOn, if_neg asked, hu, hh, Option.isSome_none, Bool.false_eq_true, if_false, phase]
    · have phase : s.phaseOf x.record 1 = some ph := by rw [State.phaseOf_eq hk (le_refl 1), hp]; rfl
      have count : s.phaseCount x.record = (ph :: later).length := by
        simp only [State.phaseCount, show x.record.program = some k from hk, hp]
      refine answered (t := s.queuedWith b x.ref x.record (freshProgress s.ret.clock) ph none)
        (r := okay (byte1 (ph :: later).length ++ byte1 1 ++ byte1 ph.kind.code ++ byte1 ph.basis.code
          ++ byte1 ph.shares)) ?_
      rw [← State.enterQueued_eq s b x.ref x.record (freshProgress s.ret.clock) ph none rfl]
      simp only [startWashOn, if_neg asked, hu, hh, Option.isSome_none, Bool.false_eq_true, if_false, phase, count,
        Phase.answer, List.append_assoc]

/-- Settles O32: STATE unless `phaseGoOn` finds a HANDOVER compartment, and otherwise the next phase queued
(`State.enterQueued_eq`). -/
theorem phaseGoQueuesTheNextPhase : Obligations.PhaseGoQueuesTheNextPhase := by
  intro b tag n s x ready hopen hx
  have answered {t : State} {r : Reply} (ho : phaseGoOn x s = (t, r)) :
      exec (.phaseGo (.bay b) tag [n]) s = .next (t.replies (.bay b) .phaseGo tag r.code r.body) :=
    exec_bayNamed (k := .phaseGo) ready hopen rfl hx tag (by simp only [owner, ownPhaseGo, hx, ho])
  refine ⟨fun hq => answered (r := refuse .state) ?_, fun hq only p hp one k hk ph hph => ?_⟩
  · unfold phaseGoOn
    split
    next h _ _ => exact absurd h hq
    · rfl
  · have phase : s.phaseOf x.record (p.phaseIndex + 1) = some ph := by
      rw [State.phaseOf_eq hk (Nat.le_add_left 1 _), Nat.add_sub_cancel, hph]
    have next : s.enterQueued b x.ref x.record p.nextPhase ph
        = s.queuedWith b x.ref x.record p.nextPhase ph (some s.ret.reEntryLimit) :=
      State.enterQueued_eq s b x.ref x.record p.nextPhase ph _ (if_pos (Nat.succ_le_succ one)).symm
    refine answered (t := s.queuedWith b x.ref x.record p.nextPhase ph (some s.ret.reEntryLimit))
      (r := okay (byte1 (p.phaseIndex + 1) ++ byte1 ph.kind.code ++ byte1 ph.basis.code ++ byte1 ph.shares)) ?_
    simp only [phaseGoOn, hq, show x.record.progress = some p from hp, only.unitOf, phase, next, Phase.answer,
      List.append_assoc]

/-- A request stops the wash at the bay that holds the compartment alone (R55). -/
theorem State.OnlyUnit.stopWash {r : RecordRef} (h : s.OnlyUnit b r) (c : Compartment) (n : Note) :
    s.stopWash r c n = s.endedInDirty b r c n := by
  simp only [State.stopWash, h.unitOf, State.endWash_eq]

/-- Settles O33: each request is refused outside the wash states, and otherwise ends the wash
(`State.OnlyUnit.stopWash`). -/
theorem abortAndCancelEndTheWash : Obligations.AbortAndCancelEndTheWash := by
  intro b tag s x hopen
  refine ⟨fun n ready hx => ?_, fun slot n ready hx => ?_⟩
  · have answered {t : State} {r : Reply} (ho : ownAbortWash (.bay b) [n] s = (t, r)) :
        exec (.abortWash (.bay b) tag [n]) s = .next (t.replies (.bay b) .abortWash tag r.code r.body) :=
      exec_bayNamed (k := .abortWash) ready hopen rfl hx tag ho
    refine ⟨fun hq => answered (r := refuse .state) ?_,
      fun hq only => answered (t := s.endedInDirty b x.ref x.record .aborted) (r := okay []) ?_⟩
    · simp [ownAbortWash, hx, hq]
    · simp [ownAbortWash, hx, hq, only.stopWash]
  · have answered {t : State} {r : Reply} (ho : ownCancelWash .office [slot, n] s = (t, r)) :
        exec (.cancelWash .office tag [slot, n]) s = .next (t.replies .office .cancelWash tag r.code r.body) :=
      exec_office (k := .cancelWash) ready rfl rfl tag rfl (by simp) ho
    refine ⟨fun hq => answered (r := refuse .state) ?_,
      fun hq only => answered (t := s.endedInDirty b x.ref x.record .cancelled)
        (r := okay (byte1 x.record.state.code)) ?_⟩
    · simp [ownCancelWash, hx, hq]
    · simp [ownCancelWash, hx, hq, only.stopWash]

end Sys2Proof.Machine
end

section
/-! # The wash cycle's timers, holds and resumes (R42, R44, R53, R54, R59 to R62) -/

namespace Sys2Proof.Machine

variable {s : State} {b : Bay} {r : RecordRef} {c : Compartment} {p : Progress} {ph : Phase}

/-! ## The phase timer (R42, R54) -/

/-- Settles O34: by whether the bay's compartment is RUNNING, and whether it has run the max duration. -/
theorem phaseTimerTicksAndExpires : Obligations.PhaseTimerTicksAndExpires := by
  intro b s power
  rw [exec_phaseTimerTick power, exec_phaseTimerExpiry power]
  refine ⟨fun idle => ?_, fun r c p ph runs timer => ⟨fun below => ?_, fun reached => ?_⟩⟩
  · simp only [State.phaseTick, State.phaseExpiry, idle.runningAt, and_self]
  · have early : ¬ ph.maxDuration ≤ p.runningTime := by omega
    simp only [State.phaseTick, State.phaseExpiry, runs.runningAt, timer, if_true, Progress.ticked, if_pos below, early,
      and_false, if_false, and_self]
  · have full : ¬ p.runningTime < ph.maxDuration := by omega
    have written : s.setRecord r (some { c with progress := some (p.ticked ph.maxDuration) }) = s := by
      have same : p.ticked ph.maxDuration = p := by simp only [Progress.ticked, if_neg full]
      have stands : s.ret.pool.set r (some c) = s.ret.pool := by
        rw [← runs.record]
        exact table_set_self s.ret.pool r
      rw [same, ← runs.progress]
      simp only [State.setRecord, stands]
    simp only [State.phaseTick, State.phaseExpiry, runs.runningAt, timer, if_true, written, reached, and_self,
      timeoutNote, State.endWash_eq]

/-! ## The handover, re-entry and hold timers (R44) -/

/-- A running timer's expiry ends the wash of a compartment in the state it names, and otherwise only stops (R44). -/
theorem State.expire_of_active (hu : (s.act.units[b]).active = some r) (hc : s.ret.pool[r] = some c)
    (stopped : WashUnit) (y : CState) (n : Note) :
    s.expire b true stopped y n = if c.state = y then s.endedInDirty b r c n else s.setUnit b stopped := by
  have hc : s.record r = some c := hc
  simp only [State.expire, if_true, hu, hc, State.endWash_eq]

/-- Settles O35: the three timers' expiries are one operation (`State.expire_of_active`). -/
theorem washTimersExpire : Obligations.WashTimersExpire := by
  intro b s power u stopped
  rw [exec_handoverTimerExpiry power, exec_reEntryTimerExpiry power, exec_holdTimerExpiry power]
  have expired {runs : Bool} (hr : runs = true) {r : RecordRef} {c : Compartment} (hu : u.active = some r)
      (hc : s.ret.pool[r] = some c) (v : WashUnit) (y : CState) (n : Note) :
      Host.Outcome.next (s.expire b runs v y n)
        = if c.state = y then .next (s.endedInDirty b r c n) else stopped v := by
    rw [hr, State.expire_of_active hu hc, apply_ite Host.Outcome.next]
    rfl
  refine ⟨fun h => ?_, fun h => ?_, fun h => ?_, fun r c hu hc => ⟨fun h => ?_, fun h => ?_, fun h => ?_⟩⟩
  · simp [State.handoverExpiry, State.expire, show (s.act.units[b.val]).handoverTimer = none from h]
  · simp [State.reEntryExpiry, State.expire, show (s.act.units[b.val]).reEntryTimer = none from h]
  · simp [State.holdExpiry, State.expire, show (s.act.units[b.val]).holdTimer = none from h]
  · exact expired (Option.isSome_iff_ne_none.mpr h) hu hc _ _ _
  · exact expired (Option.isSome_iff_ne_none.mpr h) hu hc _ _ _
  · exact expired (Option.isSome_iff_ne_none.mpr h) hu hc _ _ _

/-! ## Holds (R60, R62) -/

/-- What a record gives up at the arbiter and the outputs when it leaves its wash state (R70, R74, R114). -/
theorem State.releaseLoop_eq (s : State) (b : Bay) (r : RecordRef) (c : Compartment) :
    s.releaseLoop b r c
      = { s with act := { s.act with arbiter := s.act.arbiter.left r c, outputs := s.outputsLeft b c } } := by
  have shares : c.shares = (c.progress.map (·.sharesHeld)).getD 0 := by
    unfold Compartment.shares; cases c.progress <;> rfl
  cases hq : c.state <;>
    simp [State.releaseLoop, hq, State.leaveRunning, State.setArbiter, State.setOutputs, shares, Arbiter.left,
      State.outputsLeft, Arbiter.returnShares, Arbiter.leave, BayOutputs.parked, removeEntry, Arbiter.decided_self]

/-- The states a hold may be taken from (R60). -/
theorem CState.canHold_iff (y : CState) : y.canHold = true ↔ y = .queued ∨ y = .running ∨ y = .handover := by
  cases y <;> simp [CState.canHold]

section

variable (hu : (s.act.units[b]).active = some r) (hc : s.ret.pool[r] = some c) (hp : c.progress = some p)

include hu hc hp

/-- A hold by the record's state and the bay's hold set (R60). -/
theorem State.holdStep_of_active : s.holdStep b =
    if (c.state = .queued ∨ c.state = .running ∨ c.state = .handover) ∧ (s.hold (.bay b)).nonEmpty then
      ((s.releaseLoop b r c).setUnit b ((s.act.units[b]).heldAt s.ret.holdLimit)).changeRecord r
        (c.heldAt p s.ret.clock)
    else s := by
  have hc : s.record r = some c := hc
  simp only [State.holdStep, hu, hc, hp, CState.canHold_iff]

/-- A resume by the record's state, the bay's hold set and the held-from state (R62). -/
theorem State.resumeStep_of_active : s.resumeStep b =
    if c.state = .held ∧ (s.hold (.bay b)).nonEmpty = false then
      if p.heldFrom = some .handover then
        (s.setUnit b { s.act.units[b] with
          holdTimer := none
          handoverTimer := some s.ret.handoverLimit }).changeRecord r (c.backToHandover p)
      else ((s.phaseOf c p.phaseIndex).map (s.enterQueued b r c p)).getD s
    else s := by
  have hc : s.record r = some c := hc
  simp only [State.resumeStep, hu, hc, hp]
  cases s.phaseOf c p.phaseIndex <;> rfl

end

/-- Settles O36: `State.holdStep_of_active` and `State.resumeStep_of_active`, case by case. -/
theorem holdAndResume : Obligations.HoldAndResume := by
  intro b s power u
  rw [exec_washHold power, exec_washResume power]
  refine ⟨fun hu => ?_, fun r c p hu hc hp => ?_⟩
  · have hu : (s.act.units[b]).active = none := hu
    simp only [State.holdStep, State.resumeStep, hu, and_self]
  · rw [State.holdStep_of_active hu hc hp, State.resumeStep_of_active hu hc hp]
    refine ⟨fun hh hq => ?_, fun h => ?_, fun h => ?_, fun hh hq hf => ?_, fun hh hq hf one k hk ph hph => ?_⟩
    · have held : (s.act.units[b]).heldAt s.ret.holdLimit
          = ⟨some r, false, false, none, none, some s.ret.holdLimit, 0, none, u.supply, none, 0⟩ := by
        rw [← hu]; rfl
      rw [if_pos ⟨hq, hh⟩, State.releaseLoop_eq, held]
      rfl
    · rw [if_neg]
      rintro ⟨hq, hh⟩
      exact h.elim (fun e => by rw [hh] at e; cases e) (· hq)
    · rw [if_neg]
      rintro ⟨hq, hh⟩
      exact h.elim (fun e => by rw [hh] at e; cases e) (· hq)
    · rw [if_pos ⟨hq, hh⟩, if_pos hf]
      rfl
    · have other : p.heldFrom ≠ some .handover := by rcases hf with hf | hf <;> simp [hf]
      rw [if_pos ⟨hq, hh⟩, if_neg other, State.phaseOf_eq hk one, hph]
      exact congrArg Host.Outcome.next (State.enterQueued_eq s b r c p ph _ rfl)

end Sys2Proof.Machine
end

section
/-! # The scan, the decision and the grant (R47, R67, R71 to R73, R84, R112) -/

namespace Sys2Proof.Machine

variable {s : State}

/-! ## The scan and the decision (R71, R72) -/

theorem Arbiter.pick_eq_none_iff (a : Arbiter) : a.pick = none ↔ ∀ e backfill, ¬ a.ScanPicks e backfill := by
  simp only [← Arbiter.pick_iff, Option.eq_none_iff_forall_ne_some, Prod.forall, ne_eq]

/-- A decision is in progress while a request is on its way or the scan would pick an entry (R71). -/
theorem Arbiter.decided_of_inProgress (a : Arbiter) {before : Arbiter}
    (h : before.sent ≠ none ∨ ∃ e backfill, before.ScanPicks e backfill) : a.decided before = a := by
  refine if_neg ?_
  rintro ⟨sent, pick⟩
  obtain ne | ⟨e, backfill, picks⟩ := h
  · exact ne sent
  · exact (Arbiter.pick_eq_none_iff before).mp pick e backfill picks

/-- With no decision in progress the grant the scan picks is sent (R71). -/
theorem Arbiter.decided_of_idle (a : Arbiter) {before : Arbiter} (sent : before.sent = none)
    (none : ∀ e backfill, ¬ before.ScanPicks e backfill) :
    a.decided before = { a with sent := a.pick.map (fun x => x.1.ref) } :=
  if_pos ⟨sent, (Arbiter.pick_eq_none_iff before).mpr none⟩

/-! ## The request that reaches the yard table (R67, R73, R80) -/

section

variable {a : Arbiter} {r : RecordRef} {pre post : List QueueEntry} {e : QueueEntry}

/-- No entry is found for a record that has none. -/
theorem find?_queue_eq_none {q : List QueueEntry} (h : ∀ x ∈ q, x.ref ≠ r) (room : Nat) :
    q.find? (fun x => decide (x.ref = r ∧ x.shares ≤ room)) = none := by
  rw [List.find?_eq_none]
  intro x hx
  simp [h x hx]

/-- A record's entry is found by its reference alone, where no other has it. -/
theorem find?_queue_of_ref (he : e.ref = r) (others : ∀ x ∈ pre ++ post, x.ref ≠ r) (room : Nat) :
    (pre ++ e :: post).find? (fun x => decide (x.ref = r ∧ x.shares ≤ room))
      = if e.shares ≤ room then some e else none := by
  have before := find?_queue_eq_none (q := pre) (fun x hx => others x (by simp [hx])) room
  have after := find?_queue_eq_none (q := post) (fun x hx => others x (by simp [hx])) room
  rw [List.find?_append, before, Option.none_or, List.find?_cons, after]
  split_ifs with fits <;> simp [he, fits]

/-- An entry stands at the queue's head exactly when none stands before it. -/
theorem head?_queue_ne_iff (he : e.ref = r) (others : ∀ x ∈ pre ++ post, x.ref ≠ r) :
    (pre ++ e :: post).head? ≠ some e ↔ pre ≠ [] := by
  cases pre with
  | nil => simp
  | cons x xs =>
    have : x ≠ e := fun eq => others x (by simp) (eq ▸ he)
    simpa using this

/-- The grant sent reaches the yard table while its entry stands and fits the room (R67, R73). -/
theorem Arbiter.request_of_sent (sent : a.sent = some r) (queue : a.queue = pre ++ e :: post) (he : e.ref = r)
    (others : ∀ x ∈ pre ++ post, x.ref ≠ r) :
    a.request = if e.shares ≤ a.room then some (e, decide (pre ≠ [])) else none := by
  simp only [Arbiter.request, sent, queue, find?_queue_of_ref he others]
  split_ifs
  · simp only [Option.map_some, head?_queue_ne_iff he others]
  · rfl

/-- The grant sent is dropped where its entry has left the queue (R70, R73). -/
theorem Arbiter.request_of_left (sent : a.sent = some r) (left : ∀ x ∈ a.queue, x.ref ≠ r) : a.request = none := by
  simp only [Arbiter.request, sent, find?_queue_eq_none left, Option.map_none]

end

/-- A grant request expects QUEUED (R73). -/
theorem State.grantStep_of_notQueued {e : QueueEntry} {backfill : Bool}
    (h : s.act.arbiter.request = some (e, backfill)) (hq : ∀ c, s.ret.pool[e.ref] = some c → c.state ≠ .queued) :
    s.grantStep = s.refuseGrant := by
  unfold State.grantStep
  rw [h]
  simp only
  split
  · rfl
  next c hc =>
    split
    next hs _ => exact absurd hs (hq c hc)
    · rfl

/-- A grant request for a QUEUED compartment is taken (R47, R73). -/
theorem State.grantStep_of_queued {e : QueueEntry} {backfill : Bool} {c : Compartment} {p : Progress} {ph : Phase}
    (h : s.act.arbiter.request = some (e, backfill)) (hc : s.ret.pool[e.ref] = some c) (hq : c.state = .queued)
    (hp : c.progress = some p) (hph : s.phaseOf c p.phaseIndex = some ph) :
    s.grantStep = s.takeGrant e backfill c p ph := by
  have hc : s.record e.ref = some c := hc
  simp only [State.grantStep, h, hc, hq, hp, hph]

/-- Settles O37: the scan by `Arbiter.pick_iff`, the decision by whether one is in progress, and the GRANT by the
request that reaches the yard table. -/
theorem grantOfTheScan : Obligations.GrantOfTheScan := by
  refine ⟨Arbiter.pick_iff, fun x before => ⟨fun sent idle => ?_, x.decided_of_inProgress⟩, ?_⟩
  · rw [x.decided_of_idle sent idle]
    refine ⟨fun e backfill picks => ?_, fun none => ?_⟩
    · rw [(x.pick_iff e backfill).mpr picks, Option.map_some]
    · rw [x.pick_eq_none_iff.mpr none, Option.map_none]
  · intro s power a passed dropped reaches
    have raised : passed = raiseHead a.queue := by
      change (match a.queue with
        | [] => []
        | head :: later => { head with passCount := head.passCount + 1 } :: later) = raiseHead a.queue
      cases a.queue <;> rfl
    have reached {e : QueueEntry} {backfill : Bool} (h : a.request = some (e, backfill)) : reaches e backfill := by
      refine ⟨fun hq => ?_, fun c p k ph hc hq hp hk one hph => ?_⟩
      · rw [exec_grant power, State.grantStep_of_notQueued h hq]
        rfl
      · rw [exec_grant power, State.grantStep_of_queued h hc hq hp ((State.phaseOf_eq hk one).trans hph), raised]
        rfl
    have none_reaches (h : a.request = none) : exec .grant s = .next dropped := by
      rw [exec_grant power, State.grantStep, h]
      rfl
    refine ⟨fun sent => ?_, fun r sent => ⟨fun left => none_reaches (Arbiter.request_of_left sent left), ?_⟩⟩
    · have request : a.request = a.pick := by simp only [Arbiter.request, sent]
      refine ⟨fun e backfill picks => reached (request.trans ((a.pick_iff e backfill).mpr picks)), fun none => ?_⟩
      have same : dropped = s := by
        change s.setArbiter { s.act.arbiter with sent := Option.none } = s
        rw [← sent]
        rfl
      rw [none_reaches (request.trans (a.pick_eq_none_iff.mpr none)), same]
    · intro pre e post queue he others
      have request := Arbiter.request_of_sent sent queue he others
      refine ⟨fun fits => reached (request.trans (if_pos fits)), fun short => none_reaches (request.trans (if_neg ?_))⟩
      exact Nat.not_le.mpr short

end Sys2Proof.Machine
end

section
/-! # Interval closes and conductivity samples (R84, R86 to R97) -/

namespace Sys2Proof.Machine

variable {s : State} {b : Bay} {r : RecordRef} {c : Compartment} {p : Progress} {ph : Phase} {d : Demand}

/-! ## Interval closes (R86 to R94) -/

/-- A close of a RUNNING compartment's interval, as the increment it makes: the completion test on the record as it then
stands, and the next interval if it is not met (R84, R92). -/
theorem State.closeInterval_of_runs (runs : s.Runs b r c p ph) (hd : c.demand = some d)
    (timer : (s.act.units[b]).intervalTimer = true) {p' : Progress} (hp : p.closed ph (s.act.units[b]) = p') :
    (¬ CompletionTest d ph p' → s.closeInterval b = (s.setRecord r (some { c with progress := some p' })).setUnit b
        { s.act.units[b] with intervalCount := 0, intervalK := some (s.ret.meterConstant (.bay b)) })
      ∧ (CompletionTest d ph p' → s.closeInterval b = s.phaseCompleted b r c p' ph d) := by
  simp only [State.closeInterval, runs.runningAt, timer, if_true, hp, hd]
  refine ⟨fun unmet => ?_, fun met => ?_⟩
  · rw [if_neg (mt (phaseMet_iff d ph p').mp unmet)]
  · rw [if_pos ((phaseMet_iff d ph p').mpr met), State.completePhase_eq s b r c p' ph d hd]

/-- Settles O38: the increment by the phase's basis and the supply temperature's freshness
(`State.closeInterval_of_runs`). -/
theorem intervalCloseAccrues : Obligations.IntervalCloseAccrues := by
  intro b s power
  refine ⟨fun idle => ?_, ?_⟩
  · simp only [exec_accountingIntervalClose power, State.closeInterval, idle.runningAt]
  intro r c p ph d K runs hd timer hK u V closed
  have accrued {D R : Nat} {stale : Bool} (h : increment ph V p.remainder u.supply = ⟨D, R, stale⟩) :
      closed D R stale := by
    have volume : pulseFigure u.intervalCount * u.intervalK.getD 0 = V := by
      rw [show u.intervalK = some K from hK]; rfl
    obtain ⟨unmet, met⟩ := State.closeInterval_of_runs (p' := { p with
      dose := min (p.dose + D) 16777215
      remainder := R
      marks := { p.marks with
        overrange := p.marks.overrange || decide (255 < u.intervalCount)
        stale := p.marks.stale || stale } }) runs hd timer (by simp only [Progress.closed, volume, h, maxDose, u])
    have close := exec_accountingIntervalClose power b
    exact ⟨fun test => close.trans (congrArg _ (unmet test)), fun test => close.trans (congrArg _ (met test))⟩
  refine ⟨fun basis => accrued ?_, fun basis old => accrued ?_, fun basis x hx fresh => accrued ?_⟩
  · simp only [increment, basis]
  · have stale : freshSupply u.supply = none := by
      cases hu : u.supply with
      | none => rfl
      | some x => exact if_neg (Nat.not_lt.mpr (old x hu))
    simp only [increment, basis, stale]
  · have value : freshSupply u.supply = some x.value := by
      rw [show u.supply = some x from hx]
      exact if_pos fresh
    simp only [increment, basis, value, excess]

/-! ## Conductivity samples (R95 to R97) -/

/-- A sample applied to a RUNNING phase with an endpoint, as the count, the last sample and the PROBE mark it leaves
(R64, R95, R97). -/
theorem State.conductivitySample_of_runs {e : Endpoint} {sample : Option Nat} (runs : s.Runs b r c p ph)
    (hd : c.demand = some d) (he : ph.endpoint = some e) {n : Nat} {probe : Bool} {last : Option Nat}
    (hn : countAfter e s.ret.hysteresis (s.act.units[b]).endpointCounter sample = n)
    (hprobe : (p.marks.probe || sample.isNone) = probe) (hlast : sample.or (s.act.units[b]).lastSample = last)
    {p' : Progress} (hp : p' = { p with endpointCount := n, marks := { p.marks with probe := probe } }) {t : State}
    (ht : t = s.setUnit b { s.act.units[b] with lastSample := last, endpointCounter := n }) :
    (¬ CompletionTest d ph p' →
        s.conductivitySample b sample = t.setRecord r (some { c with progress := some p' }))
      ∧ (CompletionTest d ph p' → s.conductivitySample b sample = t.phaseCompleted b r c p' ph d) := by
  have counted : p.sampled n sample = p' := by rw [hp, ← hprobe]; rfl
  have unit : s.setUnit b ((s.act.units[b]).sampled e s.ret.hysteresis sample) = t := by
    rw [ht, ← hlast, ← hn]; rfl
  have counter : ((s.act.units[b]).sampled e s.ret.hysteresis sample).endpointCounter = n := hn
  simp only [State.conductivitySample, runs.runningAt, he, counter, counted, unit, hd]
  refine ⟨fun unmet => ?_, fun met => ?_⟩
  · rw [if_neg (mt (phaseMet_iff d ph p').mp unmet)]
  · rw [if_pos ((phaseMet_iff d ph p').mpr met), State.completePhase_eq t b r c p' ph d hd]

/-- The value of a code of a conductivity channel; 0 and 1023 are faulty (R102). -/
theorem codeValue_of_conductivity {ch : Probe} (hch : ch.val = b.val + 1) (code : Code) :
    codeValue ch code = if code.val ≠ 0 ∧ code.val ≠ 1023 then some ((code.val - 1) * 2) else none := by
  have := b.isLt
  have h0 : ch.val ≠ 0 := by omega
  have h5 : ch.val ≠ 5 := by omega
  by_cases bad : code.val = 0 ∨ code.val = 1023
  · rw [codeValue, if_pos bad, if_neg (by omega)]
  · rw [codeValue, if_neg bad, if_neg h0, if_neg h5, if_pos (by omega)]

/-- A slot after a conversion of a conductivity channel (R102, R103). -/
theorem SampleSlot.converted_of_conductivity {ch : Probe} (hch : ch.val = b.val + 1) (x : SampleSlot) (code : Code) :
    x.converted ch code = if code.val ≠ 0 ∧ code.val ≠ 1023 then ⟨some code, false, some ((code.val - 1) * 2), 0⟩
      else ⟨some code, true, x.lastGood, x.age⟩ := by
  rw [SampleSlot.converted, codeValue_of_conductivity hch]
  by_cases good : code.val ≠ 0 ∧ code.val ≠ 1023
  · simp only [if_pos good]
  · simp only [if_neg good]

/-- A conversion of a bay's conductivity channel, when the round has come to it, is stored in its slot and delivered to
the bay's wash unit (R101, R103, R104). -/
theorem State.convert_of_conductivity {ch : Probe} {code : Code} (hch : ch.val = b.val + 1)
    (next : s.act.scanNext = ch) : s.convert ch code
      = { s with act := { s.act with
          scanNext := ch + 1
          slots := s.act.slots.set ch ((s.act.slots[ch]).converted ch code) } }.conductivitySample b
        (codeValue ch code) := by
  have hb := b.isLt
  have h0 : ch.val ≠ 0 := by omega
  have h5 : ch.val ≠ 5 := by omega
  have bay : (⟨(ch.val - 1) % 4, by omega⟩ : Bay) = b := Fin.ext (by simp only; omega)
  simp only [State.convert, if_pos next, State.deliverSample, if_neg h0, if_neg h5, bay]
  rfl

/-- Settles O39: a conversion of the bay's channel stores its slot and applies the sample
(`State.convert_of_conductivity`, `State.conductivitySample_of_runs`). -/
theorem conductivitySampleApplied : Obligations.ConductivitySampleApplied := by
  intro b ch code s power hch next good slot s'
  have delivered : exec (.scanConversion ch code) s
      = .next (s'.conductivitySample b (if good then some ((code.val - 1) * 2) else none)) := by
    rw [exec_scanConversion power, State.convert_of_conductivity hch next, codeValue_of_conductivity hch,
      SampleSlot.converted_of_conductivity hch]
  refine ⟨fun idle => ?_, fun r c p ph runs => ?_⟩
  · have idle' : s'.NotRunning b := idle
    rw [delivered, State.conductivitySample, idle'.runningAt]
  have runs' : s'.Runs b r c p ph := ⟨runs.unit, runs.record, runs.running, runs.progress, runs.phase⟩
  refine ⟨fun he => ?_, ?_⟩
  · simp only [delivered, State.conductivitySample, runs'.runningAt, he]
  intro d e hd he S applied count
  have sampled {sample : Option Nat} {n : Nat} {probe : Bool} {last : Option Nat}
      (hs : (if good then some ((code.val - 1) * 2) else none) = sample)
      (hn : countAfter e s.ret.hysteresis count sample = n) (hprobe : (p.marks.probe || sample.isNone) = probe)
      (hlast : sample.or (s.act.units[b]).lastSample = last) : applied n probe last := by
    obtain ⟨unmet, met⟩ := State.conductivitySample_of_runs runs' hd he hn hprobe hlast rfl rfl
    rw [hs] at delivered
    exact ⟨fun test => delivered.trans (congrArg _ (unmet test)), fun test => delivered.trans (congrArg _ (met test))⟩
  refine ⟨fun faulty => sampled (if_neg faulty) rfl (Bool.or_true _) rfl,
    fun hg low => sampled (if_pos hg) (if_pos low) (Bool.or_false _) rfl,
    fun hg high => sampled (if_pos hg) ?_ (Bool.or_false _) rfl,
    fun hg above within => sampled (if_pos hg) ?_ (Bool.or_false _) rfl⟩
  · exact (if_neg (Nat.not_le.mpr (by omega))).trans (if_pos high)
  · exact (if_neg (Nat.not_le.mpr above)).trans (if_neg (Nat.not_lt.mpr within))

end Sys2Proof.Machine
end

section
/-! # The law of the loop, by the bays

The law of the arbiter reads of the yard what each bay's wash unit is active with, that record's state and progress, and
whether the bay's sweep runs. `Arbiter.Serves` is the law in those terms; each event of the wash cycle is one of a few
moves of the arbiter with one bay, and each move has one lemma. -/

namespace Sys2Proof.Machine

variable {q : List QueueEntry} {e : QueueEntry} {r : RecordRef} {b : Bay}

/-! ## The queue by itself (R68, R72) -/

/-- A queue's entries are in range, each stands for another record, and only the head has a pass count (R68). -/
structure QueueOrder (q : List QueueEntry) : Prop where
  entries : ∀ e ∈ q, 1 ≤ e.shares ∧ e.shares ≤ 4 ∧ e.passCount ≤ 3
  once : (q.map (·.ref)).Nodup
  later : ∀ e ∈ q.tail, e.passCount = 0

/-- An entry of a bay for a record stands in a queue. -/
def Queues (q : List QueueEntry) (b : Bay) (r : RecordRef) : Prop := ∃ e ∈ q, e.bay = b ∧ e.ref = r

theorem mem_removeEntry {e : QueueEntry} : e ∈ removeEntry r q ↔ e ∈ q ∧ e.ref ≠ r := by simp [removeEntry]

theorem mem_refs_iff : r ∈ q.map (·.ref) ↔ ∃ b, Queues q b r := by
  simp only [List.mem_map, Queues]
  exact ⟨fun ⟨e, he, h⟩ => ⟨e.bay, e, he, rfl, h⟩, fun ⟨_, e, he, _, h⟩ => ⟨e, he, h⟩⟩

theorem queues_removeEntry {k : RecordRef} : Queues (removeEntry r q) b k ↔ Queues q b k ∧ k ≠ r := by
  simp only [Queues, mem_removeEntry]
  constructor
  · rintro ⟨e, ⟨he, hr⟩, hb, rfl⟩
    exact ⟨⟨e, he, hb, rfl⟩, hr⟩
  · rintro ⟨⟨e, he, hb, rfl⟩, hr⟩
    exact ⟨e, ⟨he, hr⟩, hb, rfl⟩

theorem queues_raiseHead : Queues (raiseHead q) b r ↔ Queues q b r := by
  cases q <;> simp [Queues, raiseHead]

theorem queues_append : Queues (q ++ [e]) b r ↔ Queues q b r ∨ (e.bay = b ∧ e.ref = r) := by
  simp [Queues, or_and_right, exists_or]

/-- The later entries of a queue some of whose entries have left were later before. -/
theorem mem_tail_filter {f : QueueEntry → Bool} (h : e ∈ (q.filter f).tail) : e ∈ q.tail := by
  cases q with
  | nil => exact h
  | cons x xs =>
    rw [List.filter_cons] at h
    split at h
    · exact List.mem_of_mem_filter h
    · exact List.mem_of_mem_filter (List.mem_of_mem_tail h)

/-- The head of a queue some of whose entries have left was its head before, or a later entry. -/
theorem head_or_mem_tail_of_filter {f : QueueEntry → Bool} (h : e ∈ (q.filter f).head?) :
    e ∈ q.head? ∨ e ∈ q.tail := by
  have mem : e ∈ q := List.mem_of_mem_filter (List.mem_of_mem_head? h)
  cases q with
  | nil => cases mem
  | cons x xs =>
    rcases List.mem_cons.mp mem with rfl | mem
    · exact .inl rfl
    · exact .inr mem

namespace QueueOrder

variable (h : QueueOrder q)

include h

theorem removeEntry (r : RecordRef) : QueueOrder (removeEntry r q) where
  entries e he := h.entries e (mem_removeEntry.mp he).1
  once := h.once.sublist ((List.filter_sublist (p := fun x : QueueEntry => decide (x.ref ≠ r))).map _)
  later e he := h.later e (mem_tail_filter he)

/-- A backfill raises the pass count of a head passed fewer than three times (R72). -/
theorem raiseHead (few : ∀ head ∈ q.head?, head.passCount < 3) : QueueOrder (raiseHead q) := by
  cases q with
  | nil => exact h
  | cons head xs =>
    refine ⟨fun e he => ?_, h.once, h.later⟩
    rcases List.mem_cons.mp he with rfl | he
    · obtain ⟨low, high, -⟩ := h.entries head (by simp)
      exact ⟨low, high, few head rfl⟩
    · exact h.entries e (List.mem_cons_of_mem _ he)

/-- A new entry joins at the tail (R69). -/
theorem join (fresh : ∀ b, ¬ Queues q b e.ref) (low : 1 ≤ e.shares) (high : e.shares ≤ 4) (pass : e.passCount = 0) :
    QueueOrder (q ++ [e]) where
  entries x hx := by
    rcases List.mem_append.mp hx with hx | hx
    · exact h.entries x hx
    · cases List.mem_singleton.mp hx
      exact ⟨low, high, by omega⟩
  once := by
    have : e.ref ∉ q.map (·.ref) := fun hr => (mem_refs_iff.mp hr).elim fresh
    rw [List.map_append, List.nodup_append]
    refine ⟨h.once, by simp, fun x hx y hy => ?_⟩
    cases List.mem_singleton.mp hy
    rintro rfl
    exact this hx
  later x hx := by
    cases q with
    | nil => cases hx
    | cons head xs =>
      rcases List.mem_append.mp hx with hx | hx
      · exact h.later x hx
      · cases List.mem_singleton.mp hx
        exact pass

/-- A record has one entry. -/
theorem entry_unique {x : QueueEntry} (he : e ∈ q) (hx : x ∈ q) (hr : x.ref = e.ref) : x = e :=
  List.inj_on_of_nodup_map h.once hx he hr

end QueueOrder

/-! ## The arbiter by itself -/

variable {a before : Arbiter}

/-- What the law says of the queue and the request on its way by themselves (R68, R72). -/
structure Arbiter.Orderly (a : Arbiter) : Prop where
  queue : QueueOrder a.queue
  sent : ∀ r ∈ a.sent, r ∈ a.queue.map (·.ref) ∧ ∀ head ∈ a.queue.head?, head.ref = r ∨ head.passCount < 3

namespace Arbiter.Orderly

variable (h : a.Orderly)

include h

/-- A request a decision sends names a queued compartment, the head's or one behind a head passed fewer than three
times (R72). -/
theorem decided (before : Arbiter) : (a.decided before).Orderly := by
  unfold Arbiter.decided
  split
  · refine ⟨h.queue, fun r hr => ?_⟩
    obtain ⟨⟨e, backfill⟩, picked, rfl⟩ := Option.map_eq_some_iff.mp hr
    obtain ⟨-, head, later, queue, first | behind⟩ := (a.pick_iff e backfill).mp picked
    · obtain ⟨-, rfl, -⟩ := first
      simp [queue]
    · obtain ⟨-, few, -, pre, post, rfl, -⟩ := behind
      simp [queue, few]
  · exact h

theorem join (fresh : ∀ b, ¬ Queues a.queue b e.ref) (low : 1 ≤ e.shares) (high : e.shares ≤ 4)
    (pass : e.passCount = 0) : (a.join e).Orderly := by
  refine decided ⟨h.queue.join fresh low high pass, fun r hr => ?_⟩ a
  obtain ⟨stands, few⟩ := h.sent r hr
  refine ⟨by simp only [List.map_append, List.mem_append]; exact .inl stands, fun head hh => few head ?_⟩
  cases hq : a.queue with
  | nil => simp [hq] at stands
  | cons x xs => simpa [hq] using hh

theorem leave (r : RecordRef) : (a.leave r).Orderly := by
  refine decided ⟨h.queue.removeEntry r, fun k hk => ?_⟩ a
  simp only at hk
  split at hk
  · cases hk
  next other =>
    have hk : a.sent = some k := hk
    have ne : k ≠ r := by
      rintro rfl
      exact other hk
    obtain ⟨stands, few⟩ := h.sent k hk
    obtain ⟨e, he, rfl⟩ := List.mem_map.mp stands
    refine ⟨List.mem_map.mpr ⟨e, mem_removeEntry.mpr ⟨he, ne⟩, rfl⟩, fun head hh => ?_⟩
    obtain first | later := head_or_mem_tail_of_filter hh
    · exact few head first
    · exact .inr (by rw [h.queue.later head later]; omega)

/-- A grant that reaches the yard table raises a head passed fewer than three times, or none (R72, R73). -/
theorem few_of_request {backfill : Bool} (hr : a.request = some (e, backfill)) (hb : backfill = true) :
    ∀ head ∈ a.queue.head?, head.passCount < 3 := by
  subst hb
  intro head hh
  unfold Arbiter.request at hr
  split at hr
  · obtain ⟨-, x, later, queue, ⟨-, -, no⟩ | ⟨-, few, -⟩⟩ := (a.pick_iff e true).mp hr
    · cases no
    · rw [queue] at hh
      cases hh
      exact few
  next k sent =>
    obtain ⟨x, found, hx⟩ := Option.map_eq_some_iff.mp hr
    obtain ⟨rfl, behind⟩ := Prod.mk.inj hx
    obtain ⟨rfl, -⟩ : x.ref = k ∧ _ := by simpa using List.find?_some found
    obtain same | few := (h.sent _ sent).2 head hh
    · have := h.queue.entry_unique (List.mem_of_find?_eq_some found) (List.mem_of_mem_head? hh) same
      subst this
      exact absurd hh (by simpa using behind)
    · exact few

theorem grantTaken {backfill : Bool} (hr : a.request = some (e, backfill)) : (a.grantTaken e backfill).Orderly := by
  refine ⟨?_, fun r hr => by cases hr⟩
  change QueueOrder (removeEntry e.ref (if backfill then raiseHead a.queue else a.queue))
  split
  next hb => exact (h.queue.raiseHead (h.few_of_request hr hb)).removeEntry _
  · exact h.queue.removeEntry _

end Arbiter.Orderly

/-- A grant that reaches the yard table fits the room (R67, R73). -/
theorem Arbiter.shares_le_of_request {backfill : Bool} (hr : a.request = some (e, backfill)) : e.shares ≤ a.room := by
  unfold Arbiter.request at hr
  split at hr
  · obtain ⟨-, x, later, -, ⟨fits, rfl, -⟩ | ⟨-, -, -, _, _, -, fits, -⟩⟩ := (a.pick_iff e backfill).mp hr
    · exact fits
    · exact fits
  · obtain ⟨x, found, hx⟩ := Option.map_eq_some_iff.mp hr
    obtain ⟨rfl, -⟩ := Prod.mk.inj hx
    exact (by simpa using List.find?_some found : x.ref = _ ∧ x.shares ≤ a.room).2

end Sys2Proof.Machine
end

section
/-! # The arbiter and the bays (R67, R68, R111) -/

namespace Sys2Proof.Machine

/-- What the law of the arbiter reads of a bay: its compartment's reference, state and progress. -/
structure BayWash where
  ref : RecordRef
  state : CState
  progress : Option Progress

/-- The shares a bay's compartment holds, those of a RUNNING one (R67). -/
def sharesOf : Option BayWash → Nat
  | some ⟨_, .running, some p⟩ => p.sharesHeld
  | _ => 0

/-- A bay's compartment, if any, is neither QUEUED nor RUNNING and holds no shares. -/
def Quiet (o : Option BayWash) : Prop :=
  ∀ w ∈ o, w.state ≠ .queued ∧ w.state ≠ .running ∧ ∀ p ∈ w.progress, p.sharesHeld = 0

/-- The law of the arbiter with the bays it serves and whether each one's sweep runs: G is the sum of the shares held,
at most 12, the queue holds each QUEUED compartment once and nothing else, only a RUNNING one holds shares, and the
sweeps run exactly with the RUNNING ones (R67, R68, R111). -/
structure Arbiter.Serves (a : Arbiter) (bays : Bay → Option BayWash) (sweeps : Bay → Bool) : Prop where
  orderly : a.Orderly
  queued : ∀ b r, Queues a.queue b r ↔ ∃ w ∈ bays b, w.ref = r ∧ w.state = .queued
  granted : a.granted = ∑ b, sharesOf (bays b)
  limit : a.granted ≤ 12
  shares : ∀ b, ∀ w ∈ bays b, ∀ p ∈ w.progress, p.sharesHeld ≤ 4 ∧ (w.state ≠ .running → p.sharesHeld = 0)
  sweeps : ∀ b, sweeps b = true ↔ ∃ w ∈ bays b, w.state = .running

variable {a a' : Arbiter} {bays bays' : Bay → Option BayWash} {sweeps sweeps' : Bay → Bool} {b : Bay}
  {w : BayWash} {x : Option BayWash}

/-- A compartment that is not RUNNING holds no shares. -/
theorem sharesOf_of_not_running (h : ∀ w ∈ x, w.state ≠ .running) : sharesOf x = 0 := by
  unfold sharesOf
  split
  next p => exact absurd rfl (h _ rfl)
  · rfl

/-- The sum over the bays after one bay has changed. -/
theorem sum_sharesOf (hx : ∀ b', bays' b' = if b' = b then x else bays b') :
    (∑ b', sharesOf (bays' b')) + sharesOf (bays b) = (∑ b', sharesOf (bays b')) + sharesOf x := by
  have rest : ∑ b' ∈ Finset.univ.erase b, sharesOf (bays' b') = ∑ b' ∈ Finset.univ.erase b, sharesOf (bays b') := by
    refine Finset.sum_congr rfl fun b' hb => ?_
    rw [hx, if_neg (Finset.ne_of_mem_erase hb)]
  rw [← Finset.add_sum_erase _ _ (Finset.mem_univ b), ← Finset.add_sum_erase Finset.univ (fun b' => sharesOf (bays b'))
    (Finset.mem_univ b), rest, hx, if_pos rfl]
  omega

namespace Arbiter.Serves

variable (h : a.Serves bays sweeps)

include h

/-- The arbiter's other registers play no part. -/
theorem of_arbiter (orderly : a'.Orderly) (queue : a'.queue = a.queue) (granted : a'.granted = a.granted) :
    a'.Serves bays sweeps := by
  refine ⟨orderly, ?_, ?_, ?_, h.shares, h.sweeps⟩
  · rw [queue]; exact h.queued
  · rw [granted]; exact h.granted
  · rw [granted]; exact h.limit

section

variable (hx : ∀ b', bays' b' = if b' = b then x else bays b')

include hx

/-- One bay changes, and the arbiter with it. -/
theorem put (orderly : a'.Orderly)
    (queue : ∀ b' r, Queues a'.queue b' r
      ↔ if b' = b then ∃ w ∈ x, w.ref = r ∧ w.state = .queued else Queues a.queue b' r)
    (granted : a'.granted + sharesOf (bays b) = a.granted + sharesOf x) (limit : a'.granted ≤ 12)
    (shares : ∀ w ∈ x, ∀ p ∈ w.progress, p.sharesHeld ≤ 4 ∧ (w.state ≠ .running → p.sharesHeld = 0))
    (sweep : sweeps' b = true ↔ ∃ w ∈ x, w.state = .running) (others : ∀ b', b' ≠ b → sweeps' b' = sweeps b') :
    a'.Serves bays' sweeps' := by
  refine ⟨orderly, fun b' r => ?_, ?_, limit, fun b' => ?_, fun b' => ?_⟩
  · rw [queue, hx]
    split
    · rfl
    · exact h.queued b' r
  · have := sum_sharesOf hx
    have := h.granted
    omega
  · rw [hx]
    split
    · exact shares
    · exact h.shares b'
  · rw [hx]
    split
    next hb => rw [hb]; exact sweep
    next hb => rw [others b' hb]; exact h.sweeps b'

/-- The entries of the other bays stand where one record's entry has left the queue, whose bay it was. -/
theorem queues_removeEntry (hw : bays b = some w) (hq : w.state = .queued) (out : ∀ w ∈ x, w.state ≠ .queued)
    (b' : Bay) (r : RecordRef) : Queues (removeEntry w.ref a.queue) b' r
      ↔ if b' = b then ∃ w ∈ x, w.ref = r ∧ w.state = .queued else Queues a.queue b' r := by
  obtain ⟨e, he, hb, hr⟩ := (h.queued b w.ref).mpr ⟨w, hw, rfl, hq⟩
  rw [Machine.queues_removeEntry]
  split
  next hb' =>
    subst hb'
    refine ⟨fun ⟨stands, ne⟩ => ?_, fun ⟨v, hv, _, hq'⟩ => absurd hq' (out v hv)⟩
    obtain ⟨v, hv, rfl, -⟩ := (h.queued b' r).mp stands
    exact absurd (congrArg BayWash.ref (Option.some.inj (hv.symm.trans hw))) ne
  next hb' =>
    refine ⟨fun stands => stands.1, fun stands => ⟨stands, ?_⟩⟩
    rintro rfl
    obtain ⟨e', he', rfl, hr'⟩ := stands
    rw [h.orderly.queue.entry_unique he he' (hr'.trans hr.symm)] at hb'
    exact hb' hb

/-- A compartment leaves QUEUED other than by a grant (R70). -/
theorem leave (hw : bays b = some w) (hq : w.state = .queued) (quiet : Quiet x) :
    (a.leave w.ref).Serves bays' sweeps := by
  have held : sharesOf (bays b) = 0 := sharesOf_of_not_running fun v hv => by
    cases hw.symm.trans hv
    simp [hq]
  have holds : sharesOf x = 0 := sharesOf_of_not_running fun v hv => (quiet v hv).2.1
  refine h.put hx (h.orderly.leave w.ref) (fun b' r => ?_) ?_ ?_ (fun v hv p hp => ?_) ?_ (fun _ _ => rfl)
  · rw [Arbiter.leave, Arbiter.decided_queue]
    exact h.queues_removeEntry hx hw hq (fun v hv => (quiet v hv).1) b' r
  · rw [Arbiter.leave, Arbiter.decided_granted, held, holds]
  · rw [Arbiter.leave, Arbiter.decided_granted]
    exact h.limit
  · obtain ⟨-, -, none⟩ := quiet v hv
    simp [none p hp]
  · rw [h.sweeps b]
    refine ⟨fun ⟨v, hv, run⟩ => ?_, fun ⟨v, hv, run⟩ => absurd run (quiet v hv).2.1⟩
    cases hw.symm.trans hv
    rw [hq] at run
    cases run

/-- A compartment leaves RUNNING, its shares returned and its sweep parked (R74, R114). -/
theorem returnShares (hw : bays b = some w) (hq : w.state = .running) (quiet : Quiet x) {n : Nat}
    (hn : sharesOf (bays b) = n) (sweep : sweeps' b = false) (others : ∀ b', b' ≠ b → sweeps' b' = sweeps b') :
    (a.returnShares n).Serves bays' sweeps' := by
  have holds : sharesOf x = 0 := sharesOf_of_not_running fun v hv => (quiet v hv).2.1
  have sum : n ≤ a.granted := by
    rw [h.granted, ← hn]
    exact Finset.single_le_sum (f := fun b' => sharesOf (bays b')) (fun _ _ => Nat.zero_le _) (Finset.mem_univ b)
  have limit := h.limit
  have orderly : ({ a with granted := a.granted - n } : Arbiter).Orderly := ⟨h.orderly.queue, h.orderly.sent⟩
  refine h.put hx (orderly.decided a) (fun b' r => ?_) ?_ ?_ (fun v hv p hp => ?_) ?_ others
  · rw [Arbiter.returnShares, Arbiter.decided_queue]
    split
    next hb =>
      subst hb
      rw [h.queued]
      refine ⟨fun ⟨v, hv, _, hq'⟩ => ?_, fun ⟨v, hv, _, hq'⟩ => absurd hq' (quiet v hv).1⟩
      cases hw.symm.trans hv
      rw [hq] at hq'
      cases hq'
    · rfl
  · rw [Arbiter.returnShares, Arbiter.decided_granted, hn, holds]
    simp only
    omega
  · rw [Arbiter.returnShares, Arbiter.decided_granted]
    simp only
    omega
  · obtain ⟨-, -, none⟩ := quiet v hv
    simp [none p hp]
  · rw [sweep]
    exact iff_of_false (by simp) fun ⟨v, hv, run⟩ => absurd run (quiet v hv).2.1

/-- A bay without shares or an entry changes to another such; the arbiter plays no part. -/
theorem still (old : ∀ w ∈ bays b, w.state ≠ .queued ∧ w.state ≠ .running) (quiet : Quiet x) :
    a.Serves bays' sweeps := by
  have held : sharesOf (bays b) = 0 := sharesOf_of_not_running fun v hv => (old v hv).2
  have holds : sharesOf x = 0 := sharesOf_of_not_running fun v hv => (quiet v hv).2.1
  refine h.put hx h.orderly (fun b' r => ?_) (by rw [held, holds]) h.limit (fun v hv p hp => ?_) ?_ (fun _ _ => rfl)
  · split
    next hb =>
      subst hb
      rw [h.queued]
      exact ⟨fun ⟨v, hv, _, hq⟩ => absurd hq (old v hv).1, fun ⟨v, hv, _, hq⟩ => absurd hq (quiet v hv).1⟩
    · rfl
  · obtain ⟨-, -, none⟩ := quiet v hv
    simp [none p hp]
  · rw [h.sweeps b]
    exact ⟨fun ⟨v, hv, run⟩ => absurd run (old v hv).2, fun ⟨v, hv, run⟩ => absurd run (quiet v hv).2.1⟩

/-- A bay's compartment enters QUEUED and its request joins (R69). -/
theorem join {r : RecordRef} {p : Progress} {e : QueueEntry} (hq : x = some ⟨r, .queued, some p⟩)
    (none : p.sharesHeld = 0) (old : ∀ w ∈ bays b, w.state ≠ .queued ∧ w.state ≠ .running)
    (only : ∀ b' w, bays b' = some w → w.ref = r → b' = b) (bay : e.bay = b) (ref : e.ref = r) (low : 1 ≤ e.shares)
    (high : e.shares ≤ 4) (pass : e.passCount = 0) : (a.join e).Serves bays' sweeps := by
  have held : sharesOf (bays b) = 0 := sharesOf_of_not_running fun v hv => (old v hv).2
  have holds : sharesOf x = 0 := sharesOf_of_not_running fun v hv => by rw [hq] at hv; cases hv; simp
  have fresh (b' : Bay) : ¬ Queues a.queue b' e.ref := by
    intro stands
    obtain ⟨v, hv, hr, hq'⟩ := (h.queued b' e.ref).mp stands
    cases only b' v hv (hr.trans ref)
    exact (old v hv).1 hq'
  refine h.put hx (h.orderly.join fresh low high pass) (fun b' k => ?_) ?_ ?_ (fun v hv q hp => ?_) ?_ (fun _ _ => rfl)
  · rw [Arbiter.join, Arbiter.decided_queue, queues_append, bay, ref, hq]
    split
    next hb =>
      subst hb
      rw [h.queued]
      constructor
      · rintro (⟨v, hv, -, hq⟩ | ⟨-, rfl⟩)
        · exact absurd hq (old v hv).1
        · exact ⟨_, rfl, rfl, rfl⟩
      · rintro ⟨v, hv, rfl, -⟩
        cases hv
        exact .inr ⟨rfl, rfl⟩
    next hb => exact ⟨fun stands => stands.resolve_right fun eq => hb eq.1.symm, .inl⟩
  · rw [Arbiter.join, Arbiter.decided_granted, held, holds]
  · rw [Arbiter.join, Arbiter.decided_granted]
    exact h.limit
  · rw [hq] at hv
    cases hv
    cases hp
    simp [none]
  · rw [h.sweeps b, hq]
    refine ⟨fun ⟨v, hv, run⟩ => absurd run (old v hv).2, fun ⟨v, hv, run⟩ => ?_⟩
    cases hv
    cases run

/-- A RUNNING compartment's progress is rewritten with the shares it holds. -/
theorem runOn {r : RecordRef} {p p' : Progress} (hw : bays b = some ⟨r, .running, some p⟩)
    (hq : x = some ⟨r, .running, some p'⟩) (same : p'.sharesHeld = p.sharesHeld) : a.Serves bays' sweeps := by
  have shares : sharesOf x = sharesOf (bays b) := by rw [hw, hq]; exact same
  refine h.put hx h.orderly (fun b' k => ?_) (by rw [shares]) h.limit (fun v hv q hp => ?_) ?_ (fun _ _ => rfl)
  · split
    next hb =>
      subst hb
      rw [h.queued, hw, hq]
      constructor <;>
      · rintro ⟨v, hv, -, hq⟩
        cases hv
        cases hq
    · rfl
  · rw [hq] at hv
    cases hv
    cases hp
    rw [same]
    exact ⟨(h.shares b _ hw p rfl).1, fun ne => absurd rfl ne⟩
  · rw [h.sweeps b, hw, hq]
    simp

/-- A grant is taken: the entry leaves, G rises by its shares, at most to the capacity, and the sweep starts (R67, R73,
R112). -/
theorem grantTaken {e : QueueEntry} {backfill : Bool} (hr : a.request = some (e, backfill)) (capacity : a.capacity ≤ 12)
    (bay : e.bay = b) {p : Progress} (hq : x = some ⟨e.ref, .running, some p⟩) (hp : p.sharesHeld = e.shares)
    (sweep : sweeps' b = true) (others : ∀ b', b' ≠ b → sweeps' b' = sweeps b') :
    (a.grantTaken e backfill).Serves bays' sweeps' := by
  have stands := mem_queue_of_request hr
  have fits := shares_le_of_request hr
  obtain ⟨low, high, -⟩ := h.orderly.queue.entries e stands
  obtain ⟨w, hw, ref, queued⟩ := (h.queued b e.ref).mp ⟨e, stands, bay, rfl⟩
  have held : sharesOf (bays b) = 0 := sharesOf_of_not_running fun v hv => by
    cases hw.symm.trans hv
    simp [queued]
  have holds : sharesOf x = e.shares := by rw [hq]; exact hp
  have granted : (a.grantTaken e backfill).granted = a.granted + e.shares := rfl
  have room : a.room = a.capacity - a.granted := rfl
  refine h.put hx (h.orderly.grantTaken hr) (fun b' r => ?_) (by omega) (by omega) (fun v hv q hp' => ?_) ?_ others
  · have raised : Queues (a.grantTaken e backfill).queue b' r ↔ Queues (removeEntry w.ref a.queue) b' r := by
      rw [ref]
      change Queues (removeEntry e.ref (if backfill then raiseHead a.queue else a.queue)) b' r ↔ _
      rw [Machine.queues_removeEntry, Machine.queues_removeEntry]
      split
      · rw [queues_raiseHead]
      · rfl
    rw [raised]
    refine h.queues_removeEntry hx hw queued (fun v hv => ?_) b' r
    rw [hq] at hv
    cases hv
    simp
  · rw [hq] at hv
    cases hv
    cases hp'
    exact ⟨by omega, fun ne => absurd rfl ne⟩
  · rw [sweep, hq]
    simp

end

end Arbiter.Serves

end Sys2Proof.Machine
end

section
/-! # The wash cycle's moves at the arbiter -/

namespace Sys2Proof.Machine

variable {s t : State} {b : Bay} {r : RecordRef} {c c' : Compartment} {p : Progress} {ph : Phase} {v : WashUnit}

/-- What the law of the arbiter reads of a bay. -/
def State.bayWash (s : State) (b : Bay) : Option BayWash :=
  (s.act.units[b]).active.bind fun r => (s.ret.pool[r]).map fun c => ⟨r, c.state, c.progress⟩

/-- Whether a bay's sweep generator runs (R111). -/
def State.sweeping (s : State) (b : Bay) : Bool := (s.act.outputs[b]).generator.isSome

/-- The arbiter of a powered part serves its bays. -/
def State.Loops (s : State) : Prop := s.act.arbiter.Serves s.bayWash s.sweeping

theorem State.bayWash_of_active (hu : (s.act.units[b]).active = some r) (hc : s.ret.pool[r] = some c) :
    s.bayWash b = some ⟨r, c.state, c.progress⟩ := by
  rw [State.bayWash, hu, Option.bind_some, hc]
  rfl

/-- What a bay is active with, as the law of the arbiter reads it. -/
theorem State.of_bayWash {w : BayWash} (h : s.bayWash b = some w) : (s.act.units[b]).active = some w.ref
    ∧ ∃ c, s.ret.pool[w.ref] = some c ∧ c.state = w.state ∧ c.progress = w.progress := by
  obtain ⟨r, hu, h⟩ := Option.bind_eq_some_iff.mp h
  obtain ⟨c, hc, rfl⟩ := Option.map_eq_some_iff.mp h
  exact ⟨hu, c, hc, rfl, rfl⟩

/-- The bays after one bay's unit and one record are rewritten together. -/
theorem State.bayWash_put (pool : t.ret.pool = s.ret.pool.set r (some c')) (units : t.act.units = s.act.units.set b v)
    (active : ∀ k ∈ v.active, k = r) (others : ∀ b', b' ≠ b → (s.act.units[b']).active ≠ some r) (b' : Bay) :
    t.bayWash b' = if b' = b then v.active.map fun k => ⟨k, c'.state, c'.progress⟩ else s.bayWash b' := by
  have unitAt : t.act.units[b'] = if b' = b then v else s.act.units[b'] := by rw [units, table_set]
  have recordAt (k : RecordRef) : t.ret.pool[k] = if k = r then some c' else s.ret.pool[k] := by rw [pool, table_set]
  rw [State.bayWash, State.bayWash, unitAt]
  split
  · cases hv : v.active with
    | none => rfl
    | some k => rw [Option.bind_some, recordAt, if_pos (active k hv)]; rfl
  next hb =>
    cases hv : (s.act.units[b']).active with
    | none => rfl
    | some k =>
      have : k ≠ r := by
        rintro rfl
        exact others b' hb hv
      rw [Option.bind_some, Option.bind_some, recordAt, if_neg this]

/-- The bays after a bay's unit, still active with its compartment, and that record are rewritten together. -/
theorem State.OnlyUnit.bayWash_stay (only : s.OnlyUnit b r) (pool : t.ret.pool = s.ret.pool.set r (some c'))
    (units : t.act.units = s.act.units.set b v) (active : v.active = some r) (b' : Bay) :
    t.bayWash b' = if b' = b then some ⟨r, c'.state, c'.progress⟩ else s.bayWash b' := by
  have := State.bayWash_put pool units (fun k hk => Option.some.inj (hk.symm.trans active)) only.2 b'
  rwa [active] at this

/-- The bays after a bay's unit becomes idle. -/
theorem State.OnlyUnit.bayWash_leave (only : s.OnlyUnit b r) (pool : t.ret.pool = s.ret.pool.set r (some c'))
    (units : t.act.units = s.act.units.set b v) (active : v.active = none) (b' : Bay) :
    t.bayWash b' = if b' = b then none else s.bayWash b' := by
  have := State.bayWash_put pool units (fun k hk => by rw [active] at hk; cases hk) only.2 b'
  rwa [active] at this

/-- A unit's compartment is its alone (R43). -/
theorem State.Washes.onlyUnit (h : s.Washes) (hu : (s.act.units[b]).active = some r) : s.OnlyUnit b r :=
  ⟨hu, fun b' hb => h.apart b b' hb.symm r hu⟩

/-- The sweeps after one bay's outputs are written. -/
theorem State.sweeping_set {o : BayOutputs} (h : t.act.outputs = s.act.outputs.set b o) (b' : Bay) :
    t.sweeping b' = if b' = b then o.generator.isSome else s.sweeping b' := by
  rw [State.sweeping, h, table_set]
  split <;> rfl

@[simp] theorem State.changeRecord_arbiter (s : State) (r : RecordRef) (c : Compartment) :
    (s.changeRecord r c).act.arbiter = s.act.arbiter := by
  obtain ⟨v, frame⟩ := s.changeRecord_frame r c
  rw [frame]

@[simp] theorem State.changeRecord_outputs (s : State) (r : RecordRef) (c : Compartment) :
    (s.changeRecord r c).act.outputs = s.act.outputs := by
  obtain ⟨v, frame⟩ := s.changeRecord_frame r c
  rw [frame]

namespace State.Loops

/-- What the arbiter serves is read off its registers, the bays and the outputs. -/
theorem of_serves {a : Arbiter} (h : a.Serves t.bayWash t.sweeping) (arbiter : t.act.arbiter = a) : t.Loops := by
  subst arbiter
  exact h

theorem of_same (h : s.Loops) (arbiter : t.act.arbiter = s.act.arbiter) (bays : ∀ b, t.bayWash b = s.bayWash b)
    (sweeps : ∀ b, t.sweeping b = s.sweeping b) : t.Loops := by
  rw [State.Loops, arbiter, funext bays, funext sweeps]
  exact h

/-- An event of the arbiter's alone that leaves its queue and G as they are (R71, R75 to R79). -/
theorem setArbiter (h : s.Loops) {a : Arbiter} (orderly : a.Orderly) (queue : a.queue = s.act.arbiter.queue)
    (granted : a.granted = s.act.arbiter.granted) : (s.setArbiter a).Loops :=
  of_serves (h.of_arbiter orderly queue granted) rfl

section

variable (h : s.Loops) (only : s.OnlyUnit b r) (hc : s.ret.pool[r] = some c)

include h only hc

/-- A compartment gives up what it has at the arbiter and the outputs (R55, R60, R70, R74, R114). -/
theorem releases {x : Option BayWash} (hx : ∀ b', t.bayWash b' = if b' = b then x else s.bayWash b') (quiet : Quiet x)
    (arbiter : t.act.arbiter = (s.releaseLoop b r c).act.arbiter)
    (outputs : t.act.outputs = (s.releaseLoop b r c).act.outputs) : t.Loops := by
  have bay := State.bayWash_of_active only.1 hc
  refine of_serves ?_ arbiter
  by_cases running : c.state = .running
  · have released : s.releaseLoop b r c = s.leaveRunning b c.shares := by simp [State.releaseLoop, running]
    rw [released] at outputs ⊢
    have held : sharesOf (s.bayWash b) = c.shares := by
      rw [bay, running, Compartment.shares]
      cases c.progress <;> rfl
    have parked := State.sweeping_set (s := s) (t := t) outputs
    exact h.returnShares hx bay running quiet held (by rw [parked, if_pos rfl]; rfl)
      (fun b' hb => by rw [parked, if_neg hb])
  · have same : t.sweeping = s.sweeping := by
      funext b'
      rw [State.sweeping, outputs]
      unfold State.releaseLoop
      split
      next hq => exact absurd hq running
      · rfl
      · rfl
    rw [same]
    by_cases queued : c.state = .queued
    · have released : s.releaseLoop b r c = s.setArbiter (s.act.arbiter.leave r) := by simp [State.releaseLoop, queued]
      rw [released]
      exact h.leave hx bay queued quiet
    · have released : s.releaseLoop b r c = s := by cases hq : c.state <;> simp_all [State.releaseLoop]
      rw [released]
      exact h.still hx (fun w hw => by rw [bay] at hw; cases hw; exact ⟨queued, running⟩) quiet

/-- A wash ended in DIRTY (R55). -/
theorem endWash (n : Note) : (s.endWash b r c n).Loops := by
  refine h.releases only hc (x := none) ?_ (fun w hw => by cases hw) ?_ ?_
  · refine only.bayWash_leave (v := (s.act.units[b]).idle) (c' := c.endedDirty n) ?_ ?_ rfl <;> simp [State.endWash]
  · simp [State.endWash, State.setUnit]
  · simp [State.endWash, State.setUnit]

/-- A hold (R60). -/
theorem held (p : Progress) (limit clock : Nat) : (((s.releaseLoop b r c).setUnit b
    ((s.act.units[b]).heldAt limit)).changeRecord r (c.heldAt p clock)).Loops := by
  refine h.releases only hc (x := some ⟨r, .held, some { p with
    sharesHeld := 0, heldFrom := some c.state, heldSince := some clock }⟩) ?_ ?_ ?_ ?_
  · refine only.bayWash_stay (v := (s.act.units[b]).heldAt limit) (c' := c.heldAt p clock) ?_ ?_ only.1 <;> simp
  · intro w hw
    cases hw
    refine ⟨by simp, by simp, fun q hq => ?_⟩
    cases hq
    rfl
  · simp [State.setUnit]
  · simp [State.setUnit]

/-- A held compartment goes back to HANDOVER (R62). -/
theorem backToHandover (hq : c.state = .held) (hp : c.progress = some p) (active : v.active = some r) :
    ((s.setUnit b v).changeRecord r (c.backToHandover p)).Loops := by
  have bay := State.bayWash_of_active only.1 hc
  have none := (h.shares b _ bay p hp).2 (by simp [hq])
  have hx := only.bayWash_stay (t := (s.setUnit b v).changeRecord r (c.backToHandover p)) (v := v)
    (State.changeRecord_pool _ _ _) (State.changeRecord_units _ _ _) active
  have sweeps : ((s.setUnit b v).changeRecord r (c.backToHandover p)).sweeping = s.sweeping :=
    funext fun b' => by rw [State.sweeping, State.changeRecord_outputs]; rfl
  refine of_serves ?_ (State.changeRecord_arbiter _ _ _)
  rw [sweeps]
  refine h.still hx (fun w hw => ?_) (fun w hw => ?_)
  · rw [bay] at hw
    cases hw
    simp [hq]
  · cases hw
    refine ⟨by simp [Compartment.backToHandover], by simp [Compartment.backToHandover], fun q hq => ?_⟩
    cases hq
    exact none

/-- The progress of a RUNNING compartment is rewritten with the shares it holds. -/
theorem runOn (hq : c.state = .running) (hp : c.progress = some p) {p' : Progress}
    (pool : t.ret.pool = s.ret.pool.set r (some { c with progress := some p' }))
    (units : t.act.units = s.act.units.set b v) (active : v.active = some r)
    (arbiter : t.act.arbiter = s.act.arbiter) (outputs : t.act.outputs = s.act.outputs)
    (same : p'.sharesHeld = p.sharesHeld) : t.Loops := by
  have bay := State.bayWash_of_active only.1 hc
  rw [hq, hp] at bay
  have sweeps : t.sweeping = s.sweeping := funext fun b' => by rw [State.sweeping, outputs]; rfl
  refine of_serves ?_ arbiter
  rw [sweeps]
  exact Arbiter.Serves.runOn h (only.bayWash_stay pool units active) bay (by rw [hq]) same

/-- A phase completed, its shares returned (R50, R51, R74). -/
theorem completePhase (hq : c.state = .running) {p' : Progress} (hp : c.progress = some p')
    (same : p.sharesHeld = p'.sharesHeld) : (s.completePhase b r c p ph).Loops := by
  have shares : p.sharesHeld = c.shares := by rw [Compartment.shares, hp]; exact same
  have left : s.leaveRunning b p.sharesHeld = s.releaseLoop b r c := by simp [State.releaseLoop, hq, shares]
  unfold State.completePhase
  simp only [left]
  split
  · refine h.releases only hc (only.bayWash_leave (v := (s.act.units[b]).idle)
      (c' := c.washed p (if ph.endpoint.isSome then (s.act.units[b]).lastSample else none)) ?_ ?_ rfl)
      (fun w hw => by cases hw) ?_ ?_ <;> simp [State.setUnit]
  · refine h.releases only hc (only.bayWash_stay (c' := c.handedOver p)
      (v := { (s.act.units[b]).ended with handoverTimer := some s.ret.handoverLimit }) ?_ ?_ only.1) ?_ ?_ ?_
    · simp
    · simp
    · intro w hw
      cases hw
      refine ⟨by simp [Compartment.handedOver], by simp [Compartment.handedOver], fun q hq => ?_⟩
      cases hq
      rfl
    · simp [State.setUnit]
    · simp [State.setUnit]

end

/-- A compartment of no other bay enters QUEUED, its shares cut to the capacity (R46, R52, R62, R69). -/
theorem enterQueued (h : s.Loops) (old : ∀ w ∈ s.bayWash b, w.state ≠ .queued ∧ w.state ≠ .running)
    (only : ∀ b', (s.act.units[b']).active = some r → b' = b) (low : 1 ≤ ph.shares) (high : ph.shares ≤ 4)
    (capacity : 1 ≤ s.act.arbiter.capacity) : (s.enterQueued b r c p ph).Loops := by
  have hx := State.bayWash_put (s := s) (t := s.enterQueued b r c p ph) (State.changeRecord_pool _ _ _)
    (State.changeRecord_units _ _ _) (fun k hk => (Option.some.inj hk).symm) (fun b' hb hr => hb (only b' hr))
  have sweeps : (s.enterQueued b r c p ph).sweeping = s.sweeping :=
    funext fun b' => by rw [State.sweeping, State.enterQueued, State.changeRecord_outputs]; rfl
  refine of_serves ?_ (State.changeRecord_arbiter _ _ _)
  rw [sweeps]
  refine h.join hx rfl rfl old (fun b' w hw hr => ?_) ?_ ?_ ?_ ?_ ?_
  · exact only b' (hr ▸ (State.of_bayWash hw).1)
  all_goals
    unfold Arbiter.entryFor
    split <;> simp <;> omega

/-- A grant is taken (R47, R73, R112). -/
theorem takeGrant (h : s.Loops) {e : QueueEntry} {backfill : Bool} (only : s.OnlyUnit e.bay e.ref)
    (hr : s.act.arbiter.request = some (e, backfill)) (capacity : s.act.arbiter.capacity ≤ 12) :
    (s.takeGrant e backfill c p ph).Loops := by
  have hx := only.bayWash_stay (t := s.takeGrant e backfill c p ph) (State.changeRecord_pool _ _ _)
    (State.changeRecord_units _ _ _) only.1
  have sweeps := State.sweeping_set (s := s) (t := s.takeGrant e backfill c p ph) (State.changeRecord_outputs _ _ _)
  refine of_serves ?_ (State.changeRecord_arbiter _ _ _)
  exact h.grantTaken hx hr capacity rfl rfl rfl (by rw [sweeps, if_pos rfl]; rfl)
    (fun b' hb => by rw [sweeps, if_neg hb])

end State.Loops

end Sys2Proof.Machine
end

section
/-! # The wash cycle's events and requests at the arbiter -/

namespace Sys2Proof.Machine

variable {s t : State} {b : Bay} {r : RecordRef} {c : Compartment} {p : Progress} {ph : Phase}

/-- What the law of the arbiter rests on in a powered part: the law of the wash units with what that rests on, the range
of the capacity, and the ranges of the programs' phases (R28, R66). -/
structure State.LoopGround (s : State) : Prop where
  wash : s.WashGround
  capacity : 1 ≤ s.act.arbiter.capacity ∧ s.act.arbiter.capacity ≤ 12
  phases : ∀ k : ProgramNo, ∀ ph ∈ s.ret.programs[k], ph.InRange
  loops : s.Loops

namespace State.LoopGround

variable (g : s.LoopGround)

include g

theorem shares_of_phaseOf {n : Nat} (h : s.phaseOf c n = some ph) : 1 ≤ ph.shares ∧ ph.shares ≤ 4 := by
  obtain ⟨-, -, -, low, high, -⟩ := State.inRange_of_phaseOf h g.phases
  exact ⟨low, high⟩

/-- A bay's compartment that stood in another state enters QUEUED again (R52, R62). -/
theorem enterQueued (hu : (s.act.units[b]).active = some r) (hc : s.ret.pool[r] = some c) (queued : c.state ≠ .queued)
    (running : c.state ≠ .running) {n : Nat} (hph : s.phaseOf c n = some ph) (p : Progress) :
    (s.enterQueued b r c p ph).Loops := by
  obtain ⟨low, high⟩ := g.shares_of_phaseOf hph
  refine g.loops.enterQueued (fun w hw => ?_) (fun b' hr => ?_) low high g.capacity.1
  · cases (State.bayWash_of_active hu hc).symm.trans hw
    exact ⟨queued, running⟩
  · by_contra hb
    exact (g.wash.washes.onlyUnit hu).2 b' hb hr

/-! ## Events -/

/-- A grant request at the yard table (R73). -/
theorem grantStep : s.grantStep.Loops := by
  have refused : s.refuseGrant.Loops :=
    g.loops.setArbiter ⟨g.loops.orderly.queue, fun r hr => by cases hr⟩ rfl rfl
  unfold State.grantStep
  split
  · exact refused
  next e backfill he =>
    split
    · exact refused
    · split
      · split
        · have active := g.wash.queue e (Arbiter.mem_queue_of_request he)
          exact g.loops.takeGrant (g.wash.washes.onlyUnit active) he g.capacity.2
        · exact refused
      · exact refused

/-- An expiry of one of a wash unit's timers (R44). -/
theorem expire {runs : Bool} {stopped : WashUnit} (hs : stopped.active = (s.act.units[b]).active) (y : CState)
    (n : Note) : (s.expire b runs stopped y n).Loops := by
  have timer : (s.setUnit b stopped).Loops := by
    refine g.loops.of_same rfl (fun b' => ?_) (fun _ => rfl)
    rw [State.bayWash, State.setUnit_units, table_set]
    split
    next hb => rw [hs, hb]; rfl
    · rfl
  unfold State.expire
  split
  · split
    · exact timer
    next r hu =>
      split
      · exact timer
      next c hc =>
        split
        · exact g.loops.endWash (g.wash.washes.onlyUnit hu) hc n
        · exact timer
  · exact g.loops

/-- A hold (R60). -/
theorem holdStep (b : Bay) : (s.holdStep b).Loops := by
  unfold State.holdStep
  simp only
  split
  · exact g.loops
  next r hu =>
    split
    · exact g.loops
    next c hc =>
      split
      · exact g.loops
      · split
        · exact g.loops.held (g.wash.washes.onlyUnit hu) hc _ _ _
        · exact g.loops

/-- A resume (R62). -/
theorem resumeStep (b : Bay) : (s.resumeStep b).Loops := by
  unfold State.resumeStep
  simp only
  split
  · exact g.loops
  next r hu =>
    split
    · exact g.loops
    next c hc =>
      split
      · exact g.loops
      next p hp =>
        split_ifs with hq
        · exact g.loops.backToHandover (g.wash.washes.onlyUnit hu) hc hq.1 hp hu
        · split
          next hph => exact g.enterQueued hu hc (by simp [hq.1]) (by simp [hq.1]) hph p
          · exact g.loops
        · exact g.loops

/-- A second of a phase's running time (R42). -/
theorem phaseTick (b : Bay) : (s.phaseTick b).Loops := by
  unfold State.phaseTick
  split
  · exact g.loops
  next w hw =>
    obtain ⟨hu, hc, hq, hp, -⟩ := State.of_runningAt hw
    split
    · exact g.loops.runOn (g.wash.washes.onlyUnit hu) hc hq hp rfl (table_set_self _ b).symm hu rfl rfl rfl
    · exact g.loops

/-- The expiry of a phase timer (R54). -/
theorem phaseExpiry (b : Bay) : (s.phaseExpiry b).Loops := by
  unfold State.phaseExpiry
  split
  · exact g.loops
  next w hw =>
    obtain ⟨hu, hc, -⟩ := State.of_runningAt hw
    split
    · exact g.loops.endWash (g.wash.washes.onlyUnit hu) hc _
    · exact g.loops

/-- The close of an accounting interval (R92). -/
theorem closeInterval (b : Bay) : (s.closeInterval b).Loops := by
  unfold State.closeInterval
  simp only
  split
  · exact g.loops
  next w hw =>
    obtain ⟨hu, hc, hq, hp, -⟩ := State.of_runningAt hw
    have only := g.wash.washes.onlyUnit hu
    split_ifs
    · exact g.loops.completePhase only hc hq hp rfl
    · exact g.loops.runOn only hc hq hp rfl rfl hu rfl rfl rfl
    · exact g.loops

/-- A conductivity sample (R95). -/
theorem conductivitySample (b : Bay) (sample : Option Nat) : (s.conductivitySample b sample).Loops := by
  unfold State.conductivitySample
  split
  · exact g.loops
  next w hw =>
    split
    · exact g.loops
    next e he =>
      obtain ⟨hu, hc, hq, hp, -⟩ := State.of_runningAt hw
      have only := g.wash.washes.onlyUnit hu
      simp only
      split
      · have unitAt (b' : Bay) :
            ((s.setUnit b ((s.act.units[b]).sampled e s.ret.hysteresis sample)).act.units[b']).active = (s.act.units[b']).active := by
          rw [State.setUnit_units, table_set]
          split
          next hb => rw [hb]; rfl
          · rfl
        have sampled : (s.setUnit b ((s.act.units[b]).sampled e s.ret.hysteresis sample)).Loops :=
          g.loops.of_same rfl (fun b' => by rw [State.bayWash, unitAt]; rfl) (fun _ => rfl)
        refine sampled.completePhase ⟨(unitAt b).trans hu, fun b' hb => ?_⟩ hc hq hp rfl
        rw [unitAt]
        exact only.2 b' hb
      · exact g.loops.runOn only hc hq hp rfl rfl hu rfl rfl rfl

/-! ## Requests -/

/-- A wash stopped by a request: a compartment in a wash state is some unit's (R43, R56, R57). -/
theorem stopWash (hc : s.ret.pool[r] = some c) (hw : c.state.isWash = true) (n : Note) : (s.stopWash r c n).Loops := by
  obtain ⟨b, hb⟩ := g.wash.washes.some_unit r c hc hw
  unfold State.stopWash
  split
  next hu => exact g.loops.endWash (g.wash.washes.onlyUnit (State.of_unitOf hu)) hc n
  next hu => exact absurd hu (State.unitOf_ne_none hb)

/-- START-WASH: no unit holds the DIRTY compartment (R45, R46). -/
theorem startWashOn {x : Named} (hx : s.ret.pool[x.ref] = some x.record) : (startWashOn b x s).1.Loops := by
  unfold Machine.startWashOn
  split_ifs with hq hu
  · exact g.loops
  · exact g.loops
  · exact g.loops
  · split
    · exact g.loops
    next ph hph =>
      have idle : (s.act.units[b]).active = none := by simpa using hu
      have dirty : x.record.state = .dirty := by
        rw [not_or, not_not] at hq
        exact hq.1
      obtain ⟨low, high⟩ := g.shares_of_phaseOf hph
      refine g.loops.enterQueued (fun w hw => ?_) (fun b' hr => ?_) low high g.capacity.1
      · rw [(State.of_bayWash hw).1] at idle
        cases idle
      · obtain ⟨⟨c, hc, hw⟩, -⟩ := g.wash.washes.unit b' _ hr
        cases hx.symm.trans hc
        rw [dirty] at hw
        cases hw

/-- PHASE-GO (R52). -/
theorem phaseGoOn {x : Named} (hx : s.ret.pool[x.ref] = some x.record) : (phaseGoOn x s).1.Loops := by
  unfold Machine.phaseGoOn
  split
  next hq _ hu =>
    split
    · exact g.loops
    next hph => exact g.enterQueued (State.of_unitOf hu) hx (by simp [hq]) (by simp [hq]) hph _
  · exact g.loops

variable (q : Port) (body : List Byte)

theorem ownStartWash : (ownStartWash q body s).1.Loops := by
  unfold Machine.ownStartWash
  split
  · split
    · exact g.loops
    next hx => exact g.startWashOn (State.record_of_nameBound hx)
  · exact g.loops

theorem ownPhaseGo : (ownPhaseGo q body s).1.Loops := by
  unfold Machine.ownPhaseGo
  split
  · split
    · exact g.loops
    next hx => exact g.phaseGoOn (State.record_of_nameBound hx)
  · exact g.loops

theorem ownAbortWash : (ownAbortWash q body s).1.Loops := by
  unfold Machine.ownAbortWash
  split
  · split
    · exact g.loops
    next hx =>
      split
      next hw => exact g.stopWash (State.record_of_nameBound hx) hw _
      · exact g.loops
  · exact g.loops

theorem ownCancelWash : (ownCancelWash q body s).1.Loops := by
  unfold Machine.ownCancelWash
  split
  · split
    · exact g.loops
    next hx =>
      split
      next hw => exact g.stopWash (State.record_of_nameAtSlot hx) hw _
      · exact g.loops
  · exact g.loops

end State.LoopGround

end Sys2Proof.Machine
end

section
/-! # What only a few commands change

Two views of a state: what the laws of the arbiter, of its block lines and of the yard mode read besides the washes, and
of that what the wash cycle leaves alone too. Each operation that leaves a view as it is has one lemma saying so. -/

namespace Sys2Proof.Machine

/-- What the law of the yard mode, and that of the BLOCK-GRANTS line set, read besides the records (R78, R79, R125). -/
@[ext] structure QuietView where
  mode : YardMode
  releaseTimer : Bool
  recovery : Bool
  blockLines : LineSet
  lines : Vector Filter 16
  routes : Vector Route 16
  bindings : Vector (Option Slot) 5

/-- That, with the arbiter's registers and the running sweeps (R66, R111). -/
@[ext] structure LoopView extends QuietView where
  arbiter : Arbiter
  sweeps : Bay → Bool

def State.quietView (s : State) : QuietView :=
  ⟨s.act.mode, s.act.releaseTimer, s.act.arbiter.recovery, s.act.arbiter.blockLines, s.act.lines, s.ret.routes,
    s.ret.bindings⟩

def State.loopView (s : State) : LoopView := ⟨s.quietView, s.act.arbiter, s.sweeping⟩

variable {s t : State}

theorem State.quietView_of_loopView (h : t.loopView = s.loopView) : t.quietView = s.quietView :=
  congrArg LoopView.toQuietView h

theorem State.arbiter_of_loopView (h : t.loopView = s.loopView) : t.act.arbiter = s.act.arbiter :=
  congrArg LoopView.arbiter h

theorem State.sweeping_of_loopView (h : t.loopView = s.loopView) : t.sweeping = s.sweeping :=
  congrArg LoopView.sweeps h

section

variable (s)

/-! ## Named updates and hand-overs -/

@[simp] theorem State.setRecord_loopView (r : RecordRef) (c : Option Compartment) :
    (s.setRecord r c).loopView = s.loopView := rfl
@[simp] theorem State.setFillUnit_loopView (u : FillUnit) : (s.setFillUnit u).loopView = s.loopView := rfl
@[simp] theorem State.advanceCertificate_loopView : s.advanceCertificate.loopView = s.loopView := rfl
@[simp] theorem State.joinOverfill_loopView : s.joinOverfill.loopView = s.loopView := rfl

@[simp] theorem State.changeRecord_loopView (r : RecordRef) (c : Compartment) :
    (s.changeRecord r c).loopView = s.loopView := by
  obtain ⟨v, frame⟩ := s.changeRecord_frame r c
  rw [frame]
  rfl

@[simp] theorem State.transition_loopView (r : RecordRef) (expected : List CState) (f : Compartment → Compartment) :
    (s.transition r expected f).loopView = s.loopView := by
  obtain ⟨c, -, -, h⟩ | ⟨-, h⟩ := s.transition_cases r expected f
  · rw [h, State.changeRecord_loopView]
  · rw [h]

variable {s} in
/-- A fold of moves that each leave the view as it is. -/
theorem State.foldl_loopView {α : Type} {f : State → α → State} (hf : ∀ (s : State) x, (f s x).loopView = s.loopView)
    (xs : List α) (s : State) : (xs.foldl f s).loopView = s.loopView := by
  induction xs generalizing s with
  | nil => rfl
  | cons x xs ih => exact (ih (f s x)).trans (hf s x)

/-! ## Lapses, the clock, pulses and the instruments -/

@[simp] theorem State.lapse_loopView (r : RecordRef) : (s.lapse r).loopView = s.loopView := s.transition_loopView r _ _

@[simp] theorem State.lapseAll_loopView : s.lapseAll.loopView = s.loopView :=
  State.foldl_loopView (fun s r => s.lapse_loopView r) _ s

theorem State.timerCheck_loopView : s.timerCheck.loopView = s.loopView := by
  unfold State.timerCheck
  split <;> rfl

theorem State.lapseStep_loopView (r : RecordRef) : (s.lapseStep r).loopView = s.loopView := by
  unfold State.lapseStep
  split
  · exact State.lapse_loopView _ r
  · rfl

theorem State.clockSecond_loopView : s.clockSecond.loopView = s.loopView := by
  unfold State.clockSecond
  split <;> rfl

theorem State.rackPulse_loopView : s.rackPulse.loopView = s.loopView := by
  have joined (b : Bool) : (if b then s.joinOverfill else s).loopView = s.loopView := by split <;> rfl
  unfold State.rackPulse
  split
  · rfl
  · split
    · rfl
    · split
      · simp only
        split
        · rw [State.changeRecord_loopView, joined]
        · rw [State.setRecord_loopView, joined]
      · rfl

theorem State.stoppedStep_loopView : s.stoppedStep.loopView = s.loopView := by
  unfold State.stoppedStep
  split
  · simp only
    split
    · rfl
    · exact State.transition_loopView _ _ _ _
  · rfl

theorem State.bayPulse_loopView (b : Bay) : (s.bayPulse b).loopView = s.loopView := by
  unfold State.bayPulse
  simp only
  split <;> rfl

theorem State.samplePulse_loopView (m : Position) (level : Level) : (s.samplePulse m level).loopView = s.loopView := by
  unfold State.samplePulse
  simp only
  split
  · cases m with
    | bay b => exact State.bayPulse_loopView _ b
    | rack => exact State.rackPulse_loopView _
  · rfl

/-- A tick moves a sweep that runs, which runs on (R113). -/
theorem State.sweepStep_loopView (b : Bay) : (s.sweepStep b).loopView = s.loopView := by
  unfold State.sweepStep
  simp only
  split
  next w run hw hr =>
    refine LoopView.ext rfl rfl rfl rfl rfl rfl rfl rfl (funext fun b' => ?_)
    change State.sweeping _ b' = s.sweeping b'
    rw [State.sweeping_set rfl]
    split
    next hb => rw [hb, State.sweeping, hw]; rfl
    · rfl
  · rfl

theorem State.supplySample_loopView (sample : Option Nat) : (s.supplySample sample).loopView = s.loopView := by
  unfold State.supplySample
  split <;> rfl

end

/-! ## Requests -/

section

variable (x : Named)

theorem setIntentOn_loopView (intent : Nat) : (setIntentOn x intent s).1.loopView = s.loopView := by
  unfold setIntentOn
  split
  · rfl
  · split
    · rfl
    · split
      · rfl
      · rfl
      · rfl
      · simp only [State.retarget]
        split <;> simp

theorem inspectPassOn_loopView (inspector : Nat) : (inspectPassOn x inspector s).1.loopView = s.loopView := by
  unfold inspectPassOn
  split_ifs
  · rfl
  · rfl
  · split
    · simp
    · rfl

theorem inspectFailOn_loopView (flag : Nat) : (inspectFailOn x flag s).1.loopView = s.loopView := by
  unfold inspectFailOn
  split_ifs <;> simp

theorem fillStartOn_loopView (cargo preset : Nat) : (fillStartOn x cargo preset s).1.loopView = s.loopView := by
  unfold fillStartOn State.openFill
  split
  · rfl
  · split
    · rfl
    · split
      · split_ifs <;> simp
      · rfl

theorem fillEndOn_loopView (litres : Nat) : (fillEndOn x litres s).1.loopView = s.loopView := by
  unfold fillEndOn
  split <;> simp

theorem fillAbortOn_loopView : (fillAbortOn x s).1.loopView = s.loopView := by
  unfold fillAbortOn
  split
  · split <;> simp
  · rfl

end

theorem State.admitRecords_loopView (s : State) (n : Nat) (xs : List (RecordRef × Nat × List ClassNo)) :
    (s.admitRecords n xs).loopView = s.loopView := by
  rw [State.admitRecords_eq_foldl]
  exact State.foldl_loopView (fun s x => s.changeRecord_loopView _ _) _ s

theorem State.depart_loopView (s : State) (i : Slot) (x : Tanker) : (s.depart i x).loopView = s.loopView := by
  rw [State.depart_eq]
  rfl

section

variable (p : Port) (body : List Byte)

theorem ownAckLine_loopView : (ownAckLine p body s).1.loopView = s.loopView := by
  unfold ownAckLine
  split
  · split
    · rfl
    · split <;> rfl
  · rfl

theorem ownResume_loopView : (ownResume p body s).1.loopView = s.loopView := by
  have resumed (pos : Position) : (resumeAt pos s).1.loopView = s.loopView := by
    unfold resumeAt
    split <;> rfl
  unfold ownResume
  split
  · exact resumed _
  · split
    · rfl
    · exact resumed _
  · rfl

theorem ownAdmit_loopView : (ownAdmit p body s).1.loopView = s.loopView := by
  unfold ownAdmit
  split
  · rfl
  · split
    · rfl
    · split
      · rfl
      · split
        · split
          · rfl
          · split
            · rfl
            · split
              · rfl
              · split
                · rfl
                · exact State.admitRecords_loopView _ _ _
        · rfl

theorem ownDepart_loopView : (ownDepart p body s).1.loopView = s.loopView := by
  unfold ownDepart
  split
  · split
    · rfl
    · split_ifs
      · rfl
      · rfl
      · exact State.depart_loopView _ _ _
  · rfl

theorem ownSetIntent_loopView : (ownSetIntent p body s).1.loopView = s.loopView := by
  unfold ownSetIntent
  split
  · split
    · rfl
    · exact setIntentOn_loopView _ _
  · rfl

theorem ownEmptied_loopView : (ownEmptied p body s).1.loopView = s.loopView := by
  unfold ownEmptied
  split
  · split
    · rfl
    · split <;> simp
  · rfl

theorem ownVoidRelease_loopView : (ownVoidRelease p body s).1.loopView = s.loopView := by
  unfold ownVoidRelease
  split
  · split
    · rfl
    · split <;> simp
  · rfl

theorem ownInspectPass_loopView : (ownInspectPass p body s).1.loopView = s.loopView := by
  unfold ownInspectPass
  split
  · split
    · rfl
    · exact inspectPassOn_loopView _ _
  · rfl

theorem ownInspectFail_loopView : (ownInspectFail p body s).1.loopView = s.loopView := by
  unfold ownInspectFail
  split
  · split
    · rfl
    · exact inspectFailOn_loopView _ _
  · rfl

theorem ownFillStart_loopView : (ownFillStart p body s).1.loopView = s.loopView := by
  unfold ownFillStart
  split
  · split
    · rfl
    · exact fillStartOn_loopView _ _ _
  · rfl

theorem ownFillEnd_loopView : (ownFillEnd p body s).1.loopView = s.loopView := by
  unfold ownFillEnd
  split
  · split
    · rfl
    · exact fillEndOn_loopView _ _
  · rfl

theorem ownFillAbort_loopView : (ownFillAbort p body s).1.loopView = s.loopView := by
  unfold ownFillAbort
  split
  · split
    · rfl
    · exact fillAbortOn_loopView _
  · rfl

theorem ownWriteClass_loopView : (ownWriteClass p body s).1.loopView = s.loopView := by
  unfold ownWriteClass
  repeat' split
  all_goals rfl

theorem ownWriteProgram_loopView : (ownWriteProgram p body s).1.loopView = s.loopView := by
  unfold ownWriteProgram
  repeat' split
  all_goals rfl

theorem ownWriteFollow_loopView : (ownWriteFollow p body s).1.loopView = s.loopView := by
  unfold ownWriteFollow
  repeat' split
  all_goals rfl

theorem ownReadRoute_loopView : (ownReadRoute p body s).1.loopView = s.loopView := by
  unfold ownReadRoute
  repeat' split
  all_goals rfl

theorem ownSetClock_loopView : (ownSetClock p body s).1.loopView = s.loopView := by
  unfold ownSetClock
  split <;> rfl

/-- The kinds whose owners write nothing of the view: all but the wash cycle's, DOCK and UNDOCK, WRITE-ROUTE,
WRITE-SETTING and OPEN-YARD. -/
def Kind.besideTheLoop : Kind → Bool
  | .startWash | .phaseGo | .abortWash | .cancelWash | .dock | .undock | .writeRoute | .writeSetting
  | .openYard => false
  | _ => true

/-- The owner of such a kind leaves the view as it is. -/
theorem owner_loopView {k : Kind} (hk : k.besideTheLoop = true) : (owner k p body s).1.loopView = s.loopView := by
  by_cases hr : k.reports = true
  · rw [owner_of_reports p body hr]
  · cases k <;> try exact absurd rfl hr
    case startWash | phaseGo | abortWash | cancelWash | dock | undock | writeRoute | writeSetting | openYard => cases hk
    case events => rfl
    case yardReset => rfl
    case ackLine => exact ownAckLine_loopView p body
    case resume => exact ownResume_loopView p body
    case admitTanker => exact ownAdmit_loopView p body
    case depart => exact ownDepart_loopView p body
    case setIntent => exact ownSetIntent_loopView p body
    case emptied => exact ownEmptied_loopView p body
    case voidRelease => exact ownVoidRelease_loopView p body
    case inspectPass => exact ownInspectPass_loopView p body
    case inspectFail => exact ownInspectFail_loopView p body
    case fillStart => exact ownFillStart_loopView p body
    case fillEnd => exact ownFillEnd_loopView p body
    case fillAbort => exact ownFillAbort_loopView p body
    case writeClass => exact ownWriteClass_loopView p body
    case writeProgram => exact ownWriteProgram_loopView p body
    case writeFollow => exact ownWriteFollow_loopView p body
    case readRoute => exact ownReadRoute_loopView p body
    case setClock => exact ownSetClock_loopView p body

/-- DOCK binds at most: the active domain and the routes stand (R13). -/
theorem ownDock_frame : (ownDock p body s).1.act = s.act ∧ (ownDock p body s).1.ret.routes = s.ret.routes := by
  unfold ownDock dockAt
  repeat' split
  all_goals exact ⟨rfl, rfl⟩

/-- UNDOCK unbinds at most: the active domain and the routes stand (R14, R15). -/
theorem ownUndock_frame : (ownUndock p body s).1.act = s.act ∧ (ownUndock p body s).1.ret.routes = s.ret.routes := by
  unfold ownUndock
  repeat' split
  all_goals exact ⟨rfl, rfl⟩

end

end Sys2Proof.Machine
end

section
/-! # The quiet view through the wash cycle, and the BLOCK-GRANTS line set (R78) -/

namespace Sys2Proof.Machine

variable {s t : State}

/-! ## The wash cycle leaves the quiet view as it is -/

section

variable (s) (b : Bay) (r : RecordRef) (c : Compartment)

theorem State.setArbiter_quietView {a : Arbiter} (recovery : a.recovery = s.act.arbiter.recovery)
    (blockLines : a.blockLines = s.act.arbiter.blockLines) : (s.setArbiter a).quietView = s.quietView :=
  QuietView.ext rfl rfl recovery blockLines rfl rfl rfl

@[simp] theorem State.changeRecord_quietView : (s.changeRecord r c).quietView = s.quietView :=
  State.quietView_of_loopView (s.changeRecord_loopView r c)

@[simp] theorem State.setUnit_quietView (u : WashUnit) : (s.setUnit b u).quietView = s.quietView := rfl

@[simp] theorem State.setRecord_quietView (o : Option Compartment) : (s.setRecord r o).quietView = s.quietView := rfl

@[simp] theorem State.leaveRunning_quietView (shares : Nat) : (s.leaveRunning b shares).quietView = s.quietView :=
  s.setArbiter_quietView (by simp [Arbiter.returnShares]) (by simp [Arbiter.returnShares])

@[simp] theorem State.releaseLoop_quietView : (s.releaseLoop b r c).quietView = s.quietView := by
  unfold State.releaseLoop
  split
  · exact s.leaveRunning_quietView b _
  · exact s.setArbiter_quietView (by simp [Arbiter.leave]) (by simp [Arbiter.leave])
  · rfl

@[simp] theorem State.endWash_quietView (n : Note) : (s.endWash b r c n).quietView = s.quietView := by
  simp [State.endWash]

theorem State.stopWash_quietView (n : Note) : (s.stopWash r c n).quietView = s.quietView := by
  unfold State.stopWash
  split <;> simp

@[simp] theorem State.enterQueued_quietView (p : Progress) (ph : Phase) :
    (s.enterQueued b r c p ph).quietView = s.quietView := by
  simp only [State.enterQueued, State.changeRecord_quietView, State.setUnit_quietView]
  exact s.setArbiter_quietView (by simp [Arbiter.join]) (by simp [Arbiter.join])

@[simp] theorem State.completePhase_quietView (p : Progress) (ph : Phase) :
    (s.completePhase b r c p ph).quietView = s.quietView := by
  unfold State.completePhase
  simp only
  split <;> simp

theorem State.takeGrant_quietView (e : QueueEntry) (backfill : Bool) (p : Progress) (ph : Phase) :
    (s.takeGrant e backfill c p ph).quietView = s.quietView := by
  rw [State.takeGrant, State.changeRecord_quietView]
  rfl

theorem State.grantStep_quietView : s.grantStep.quietView = s.quietView := by
  unfold State.grantStep
  split
  · rfl
  · split
    · rfl
    · split
      · split
        · exact s.takeGrant_quietView ..
        · rfl
      · rfl

theorem State.expire_quietView (runs : Bool) (stopped : WashUnit) (y : CState) (n : Note) :
    (s.expire b runs stopped y n).quietView = s.quietView := by
  unfold State.expire
  repeat' split
  all_goals simp

theorem State.phaseTick_quietView : (s.phaseTick b).quietView = s.quietView := by
  unfold State.phaseTick
  repeat' split
  all_goals rfl

theorem State.phaseExpiry_quietView : (s.phaseExpiry b).quietView = s.quietView := by
  unfold State.phaseExpiry
  repeat' split
  all_goals simp

theorem State.holdStep_quietView : (s.holdStep b).quietView = s.quietView := by
  unfold State.holdStep
  simp only
  repeat' split
  all_goals simp

theorem State.resumeStep_quietView : (s.resumeStep b).quietView = s.quietView := by
  unfold State.resumeStep
  simp only
  repeat' split
  all_goals simp

theorem State.closeInterval_quietView : (s.closeInterval b).quietView = s.quietView := by
  unfold State.closeInterval
  simp only
  repeat' split
  all_goals simp

theorem State.conductivitySample_quietView (sample : Option Nat) :
    (s.conductivitySample b sample).quietView = s.quietView := by
  unfold State.conductivitySample
  simp only
  repeat' split
  all_goals simp

/-- A conversion may set or clear the LOW-PRESSURE cause, and no other (R77, R104). -/
theorem State.convert_quietView (ch : Probe) (code : Code) : (s.convert ch code).quietView = s.quietView := by
  unfold State.convert State.deliverSample
  split_ifs
  · exact State.quietView_of_loopView (State.supplySample_loopView _ _)
  · exact State.setArbiter_quietView _ (by simp [Arbiter.pressureSample]) (by simp [Arbiter.pressureSample])
  · exact State.conductivitySample_quietView _ _ _
  · rfl

theorem State.storeSetting_quietView (i : Fin 25) (v : Nat) :
    ((s.storeSetting i v).settingEffect i v).quietView = s.quietView := by
  unfold State.settingEffect
  split
  · exact State.setArbiter_quietView _ (by simp [Arbiter.setCapacity]) (by simp [Arbiter.setCapacity])
  · split
    · rfl
    · simp only
      split <;> rfl

end

section

variable (p : Port) (body : List Byte)

theorem ownStartWash_quietView : (ownStartWash p body s).1.quietView = s.quietView := by
  unfold ownStartWash startWashOn
  repeat' split
  all_goals simp

theorem ownPhaseGo_quietView : (ownPhaseGo p body s).1.quietView = s.quietView := by
  unfold ownPhaseGo phaseGoOn
  repeat' split
  all_goals simp

theorem ownAbortWash_quietView : (ownAbortWash p body s).1.quietView = s.quietView := by
  unfold ownAbortWash
  split
  · split
    · rfl
    · split
      · exact s.stopWash_quietView ..
      · rfl
  · rfl

theorem ownCancelWash_quietView : (ownCancelWash p body s).1.quietView = s.quietView := by
  unfold ownCancelWash
  split
  · split
    · rfl
    · split
      · exact s.stopWash_quietView ..
      · rfl
  · rfl

theorem ownWriteSetting_quietView : (ownWriteSetting p body s).1.quietView = s.quietView := by
  unfold ownWriteSetting
  split
  · split
    · rfl
    · exact s.storeSetting_quietView _ _
  · rfl

end

/-! ## A line's action -/

theorem State.joinHold_loopView (s : State) (p : Position) (l : Line) : (s.joinHold p l).loopView = s.loopView := by
  unfold State.joinHold State.rackHeld
  simp only
  repeat' split
  all_goals rfl

/-- A line joining or leaving the BLOCK-GRANTS line set, on the view. -/
def LoopView.setBlockLine (x : LoopView) (l : Line) (m : Bool) : LoopView :=
  { x with
    arbiter := x.arbiter.setBlockLine l m
    recovery := (x.arbiter.setBlockLine l m).recovery
    blockLines := (x.arbiter.setBlockLine l m).blockLines }

theorem State.setBlockLine_loopView (s : State) (l : Line) (m : Bool) :
    (s.setBlockLine l m).loopView = s.loopView.setBlockLine l m := rfl

/-- Of the views a line become active writes the BLOCK-GRANTS line set only, under that action and unmasked (R149). -/
theorem State.lineBecomesActive_loopView (s : State) (l : Line) (e : Route) : (s.lineBecomesActive l e).loopView
    = if e.masked = false ∧ e.action = .blockGrants then (s.setBlockLine l true).loopView else s.loopView := by
  have notices (t : State) : (t.lineNotices l e.notify).loopView = t.loopView := by
    refine State.foldl_loopView (fun t p => ?_) _ t
    split <;> rfl
  unfold State.lineBecomesActive
  cases hm : e.masked with
  | true => simp
  | false =>
    simp only [Bool.false_eq_true, if_false, notices, true_and]
    cases ha : e.action <;> simp [State.lineAction, State.joinHold_loopView]

/-- Trimming the pending sets writes the notices only (R155). -/
theorem State.trimPending_loopView (s : State) (l : Line) (old new : PortSet) :
    (s.trimPending l old new).loopView = s.loopView := by
  refine State.foldl_loopView (fun t p => ?_) _ s
  split <;> rfl

/-! ## The law of the BLOCK-GRANTS line set (R78) -/

/-- An accepted level blocks grants under a route entry: active, unmasked, and BLOCK-GRANTS its action (R78, R147). -/
abbrev Route.Blocks (e : Route) (f : Filter) : Prop :=
  f.accepted = (if e.polarity = .activeLow then Level.low else Level.high) ∧ e.masked = false ∧ e.action = .blockGrants

/-- The BLOCK-GRANTS line set is exactly the lines that block grants (R78). -/
def QuietView.BlockFits (x : QuietView) : Prop :=
  ∀ l : Line, x.blockLines[l] = true ↔ (x.routes[l]).Blocks x.lines[l]

/-- One line's filter, route entry and membership are written together. -/
theorem QuietView.BlockFits.write {x y : QuietView} (h : x.BlockFits) (l : Line) {f : Filter} {e : Route} {m : Bool}
    (lines : y.lines = x.lines.set l f) (routes : y.routes = x.routes.set l e)
    (blockLines : y.blockLines = x.blockLines.set l m) (hm : m = true ↔ e.Blocks f) : y.BlockFits := by
  intro k
  rw [lines, routes, blockLines, table_set, table_set, table_set]
  split
  · exact hm
  · exact h k

/-- A sampled filter has the old level accepted, or has newly accepted the level sampled (R147). -/
theorem Filter.sample_cases (f : Filter) (n : Nat) (level : Level) :
    ((f.sample n level).2 = false ∧ (f.sample n level).1.accepted = f.accepted)
      ∨ ((f.sample n level).2 = true ∧ (f.sample n level).1.accepted = level) := by
  unfold Filter.sample
  split_ifs <;> simp

theorem Polarity.activeLevel_eq (p : Polarity) : p.activeLevel = if p = .activeLow then .low else .high := by
  cases p <;> rfl

/-- What a sample of a line does to the arbiter, and to the quiet view (R147, R149, R150). -/
theorem State.sampleLine_loopView (s : State) (l : Line) (level : Level) :
    let f := (s.act.lines[l]).sample (s.ret.routes[l]).filterN level
    (s.sampleLine l level).loopView = if f.2 = true then
        if level = (s.ret.routes[l]).polarity.activeLevel then
          if (s.ret.routes[l]).masked = false ∧ (s.ret.routes[l]).action = .blockGrants then
            ((s.setLine l f.1).setBlockLine l true).loopView
          else (s.setLine l f.1).loopView
        else ((s.setLine l f.1).setBlockLine l false).loopView
      else (s.setLine l f.1).loopView := by
  simp only [State.sampleLine]
  split
  · split
    · exact State.lineBecomesActive_loopView _ _ _
    · rfl
  · rfl

theorem State.sampleLine_blockFits (h : s.quietView.BlockFits) (l : Line) (level : Level) :
    (s.sampleLine l level).quietView.BlockFits := by
  have view := s.sampleLine_loopView l level
  have old := h l
  simp only at view
  obtain ⟨same, level'⟩ | ⟨changed, level'⟩ := (s.act.lines[l]).sample_cases (s.ret.routes[l]).filterN level
  · rw [same, if_neg (by simp)] at view
    rw [State.quietView_of_loopView view]
    refine h.write l (m := s.act.arbiter.blockLines[l]) (e := s.ret.routes[l]) rfl (table_set_self _ _).symm
      (table_set_self _ _).symm (old.trans ?_)
    rw [Route.Blocks, Route.Blocks, level']
    rfl
  · rw [changed, if_pos rfl] at view
    split_ifs at view with active blocks
    · rw [State.quietView_of_loopView view]
      refine h.write l (m := true) (e := s.ret.routes[l]) rfl (table_set_self _ _).symm (by
        simp [State.setBlockLine, Arbiter.setBlockLine, State.quietView]) ?_
      rw [Route.Blocks, level', active, Polarity.activeLevel_eq]
      exact iff_of_true rfl ⟨rfl, blocks⟩
    · rw [State.quietView_of_loopView view]
      refine h.write l (m := s.act.arbiter.blockLines[l]) (e := s.ret.routes[l]) rfl (table_set_self _ _).symm
        (table_set_self _ _).symm (iff_of_false (fun hm => ?_) fun hb => blocks hb.2)
      exact blocks (old.mp hm).2
    · rw [State.quietView_of_loopView view]
      refine h.write l (m := false) (e := s.ret.routes[l]) rfl (table_set_self _ _).symm (by
        simp [State.setBlockLine, Arbiter.setBlockLine, State.quietView]) (iff_of_false (by simp) fun hb => ?_)
      rw [Route.Blocks, level', ← Polarity.activeLevel_eq] at hb
      exact active hb.1

/-- WRITE-ROUTE's change to the arbiter and the quiet view: whether the line blocks grants under the new entry (R78,
R155). -/
theorem State.reroute_loopView (s : State) (l : Line) (e : Route) : ∃ m : Bool, ∃ again : Bool,
    (m = true ↔ e.Blocks s.act.lines[l]) ∧ (again = true → m = true) ∧ (s.reroute l e).loopView =
      if again = true then (((s.setRoute l e).setBlockLine l m).setBlockLine l true).loopView
      else ((s.setRoute l e).setBlockLine l m).loopView := by
  have trimmed := (s.setRoute l e).trimPending_loopView l (s.ret.routes[l]).notify e.notify
  unfold State.reroute
  simp only
  generalize (s.setRoute l e).trimPending l (s.ret.routes[l]).notify e.notify = s1 at trimmed ⊢
  have lines : s1.act.lines = s.act.lines := congrArg (·.lines) trimmed
  have routes : s1.ret.routes = s.ret.routes.set l e := congrArg (·.routes) trimmed
  have active : s1.lineActive l = true
      ↔ (s.act.lines[l]).accepted = if e.polarity = .activeLow then Level.low else Level.high := by
    rw [State.lineActive_iff, lines, routes, table_set, if_pos rfl]
  generalize hm : (s1.lineActive l && !e.masked && e.action == .blockGrants) = m
  have blocks : m = true ↔ e.Blocks s.act.lines[l] := by
    rw [← hm, Route.Blocks, ← active]
    simp [and_assoc]
  refine ⟨m, (s1.lineActive l && !e.masked && !(s.lineActive l && !(s.ret.routes[l]).masked))
    && e.action == .blockGrants, blocks, fun again => ?_, ?_⟩
  · rw [← hm]
    simp_all
  · simp only [State.lineBecomesActive_loopView, State.setBlockLine_loopView, trimmed, Bool.and_eq_true,
      Bool.not_eq_true', beq_iff_eq, apply_ite State.loopView]
    split_ifs <;> simp_all

theorem State.reroute_blockFits (h : s.quietView.BlockFits) (l : Line) (e : Route) :
    (s.reroute l e).quietView.BlockFits := by
  obtain ⟨m, again, blocks, twice, view⟩ := s.reroute_loopView l e
  split_ifs at view with ha
  · rw [State.quietView_of_loopView view]
    refine h.write l (m := m) (f := s.act.lines[l]) (table_set_self _ _).symm rfl ?_ blocks
    rw [twice ha]
    simp [State.quietView, State.setBlockLine, Arbiter.setBlockLine]
  · rw [State.quietView_of_loopView view]
    refine h.write l (m := m) (f := s.act.lines[l]) (table_set_self _ _).symm rfl ?_ blocks
    simp [State.quietView, State.setBlockLine, Arbiter.setBlockLine]

end Sys2Proof.Machine
end

section
/-! # Every step keeps the law of the arbiter -/

namespace Sys2Proof.Machine

variable {s t : State}

/-! ## The law by the bays -/

/-- The law of the arbiter and that of the BLOCK-GRANTS line set, by the bays and the views (R67, R68, R78, R111). -/
structure State.LoopFits (s : State) : Prop where
  loops : s.Loops
  blocks : s.quietView.BlockFits

theorem State.sharesAt_eq (s : State) (b : Bay) : s.sharesAt b = sharesOf (s.bayWash b) := by
  cases hu : (s.act.units[b]).active with
  | none => simp only [State.sharesAt, State.bayWash, hu, Option.bind_none, sharesOf]
  | some r =>
    cases hc : s.ret.pool[r] with
    | none =>
      simp only [State.sharesAt, State.record, State.bayWash, hu, hc, Option.bind_some, Option.map_none, sharesOf]
    | some c =>
      simp only [State.sharesAt, State.record, State.bayWash, hu, hc, Option.bind_some, Option.map_some]
      cases c.state <;> cases c.progress <;> rfl

/-- A bay's compartment in a state, as a fact about the unit and the pool. -/
theorem State.exists_bayWash_iff {b : Bay} (y : CState) : (∃ w ∈ s.bayWash b, w.state = y)
    ↔ ∃ r ∈ (s.act.units[b]).active, ∃ c ∈ s.ret.pool[r], c.state = y := by
  constructor
  · rintro ⟨w, hw, rfl⟩
    obtain ⟨hu, c, hc, hq, -⟩ := State.of_bayWash hw
    exact ⟨w.ref, hu, c, hc, hq⟩
  · rintro ⟨r, hu, c, hc, hq⟩
    exact ⟨_, State.bayWash_of_active hu hc, hq⟩

/-- The law gives it to a powered part that keeps the law of the wash units. -/
theorem State.Washes.loopFits (washes : s.Washes) (h : s.LoopLaw) (hp : s.mainPower = true) : s.LoopFits := by
  obtain ⟨granted, limit, entries, once, later, queued, shares, sweeps, blocks, sent⟩ := h hp
  refine ⟨⟨⟨⟨fun e he => ?_, once, later⟩, sent⟩, fun b r => ?_, ?_, limit, fun b w hw p hp => ?_, fun b => ?_⟩, blocks⟩
  · obtain ⟨-, -, low, high, pass⟩ := entries e he
    exact ⟨low, high, pass⟩
  · constructor
    · rintro ⟨e, he, rfl, rfl⟩
      obtain ⟨hu, ⟨c, hc, hq⟩, -⟩ := entries e he
      exact ⟨_, State.bayWash_of_active hu hc, rfl, hq⟩
    · rintro ⟨w, hw, rfl, hq⟩
      obtain ⟨hu, c, hc, hcq, -⟩ := State.of_bayWash hw
      obtain ⟨e, he, ref⟩ := List.mem_map.mp (queued _ c hc (hcq.trans hq))
      refine ⟨e, he, ?_, ref⟩
      by_contra hb
      exact washes.apart b e.bay (Ne.symm hb) _ hu (ref ▸ (entries e he).1)
  · rw [granted, Fin.sum_univ_four]
    simp only [State.sharesAt_eq]
  · obtain ⟨-, c, hc, hq, hprogress⟩ := State.of_bayWash hw
    rw [← hq]
    exact shares _ c hc p (hprogress.trans hp)
  · exact (sweeps b).trans (State.exists_bayWash_iff .running).symm

/-- It gives the law where the laws of the wash units and of the records hold: a record in a wash state is some bay's,
and no other has a progress part (R5, R42). -/
theorem State.LoopFits.loopLaw (h : s.LoopFits) (washes : s.Washes) (marker : s.ret.markerValid = true)
    (records : s.RecordLaw) : s.LoopLaw := by
  obtain ⟨⟨⟨⟨entries, once, later⟩, sent⟩, queued, granted, limit, shares, sweeps⟩, blocks⟩ := h
  have ofWash {r : RecordRef} {c : Compartment} (hc : s.ret.pool[r] = some c) (hw : c.state.isWash = true) :
      ∃ b, s.bayWash b = some ⟨r, c.state, c.progress⟩ := by
    obtain ⟨b, hb⟩ := washes.some_unit r c hc hw
    exact ⟨b, State.bayWash_of_active hb hc⟩
  intro _
  refine ⟨?_, limit, fun e he => ?_, once, later, fun r c hc hq => ?_, fun r c hc p hp => ?_,
    fun b => (sweeps b).trans (State.exists_bayWash_iff .running), blocks, sent⟩
  · rw [granted, Fin.sum_univ_four]
    simp only [State.sharesAt_eq]
  · obtain ⟨⟨_, y, _⟩, hw, rfl, hq⟩ := (queued e.bay e.ref).mp ⟨e, he, rfl, rfl⟩
    obtain ⟨hu, c, hc, hcq, -⟩ := State.of_bayWash hw
    exact ⟨hu, ⟨c, hc, hcq.trans hq⟩, entries e he⟩
  · obtain ⟨b, hb⟩ := ofWash hc (by rw [hq]; rfl)
    exact mem_refs_iff.mpr ⟨b, (queued b r).mpr ⟨_, hb, rfl, hq⟩⟩
  · have fits := (s.recordLaw_iff.mp records) marker r c hc
    have hw : c.state.isWash = true := by
      by_contra hw
      rw [show c.progress = none from fits.progress_none (by simpa using hw)] at hp
      cases hp
    obtain ⟨b, hb⟩ := ofWash hc hw
    exact shares b _ hb p hp

/-! ## Operations that leave the loop as it is -/

/-- What a bay is active with is as it was where the washes stand. -/
theorem State.SameWashes.bayWash (h : s.SameWashes t) (washes : s.Washes) (b : Bay) : t.bayWash b = s.bayWash b := by
  rw [State.bayWash, State.bayWash, h.active]
  cases hu : (s.act.units[b]).active with
  | none => rfl
  | some r =>
    obtain ⟨⟨c, hc, hw⟩, -⟩ := washes.unit b r hu
    have part : c.washPart = some (c.state, c.progress) := Compartment.washPart_eq_some.mpr ⟨hw, rfl, rfl⟩
    have same := h.records r
    rw [hc, Option.bind_some, part] at same
    obtain ⟨d, hd, hy⟩ := Option.bind_eq_some_iff.mp same
    obtain ⟨-, state, progress⟩ := Compartment.washPart_eq_some.mp hy
    rw [Option.bind_some, Option.bind_some, hc, hd, Option.map_some, Option.map_some, state, progress]

/-- Where the washes and the view stand the loop stands. -/
theorem State.LoopFits.of_view (h : s.LoopFits) (washes : s.Washes) (same : s.SameWashes t)
    (view : t.loopView = s.loopView) : t.LoopFits where
  loops := h.loops.of_same (State.arbiter_of_loopView view) (same.bayWash washes)
    (congrFun (State.sweeping_of_loopView view))
  blocks := by
    rw [State.quietView_of_loopView view]
    exact h.blocks

/-- Where the quiet view stands the line set stands. -/
theorem State.LoopFits.of_quietView (h : s.LoopFits) (loops : t.Loops) (view : t.quietView = s.quietView) :
    t.LoopFits := ⟨loops, by rw [view]; exact h.blocks⟩

/-! ## Lines, the pressure, the capacity and the recovery cause -/

/-- A decision after a write to registers beside the queue (R71). -/
theorem Arbiter.Orderly.decided_of {a a' before : Arbiter} (h : a.Orderly) (queue : a'.queue = a.queue)
    (sent : a'.sent = a.sent) : (a'.decided before).Orderly := by
  refine Arbiter.Orderly.decided ⟨queue ▸ h.queue, ?_⟩ before
  rw [sent, queue]
  exact h.sent

@[simp] theorem Arbiter.setBlockLine_queue (a : Arbiter) (l : Line) (m : Bool) :
    (a.setBlockLine l m).queue = a.queue := by simp [Arbiter.setBlockLine]

@[simp] theorem Arbiter.setBlockLine_granted (a : Arbiter) (l : Line) (m : Bool) :
    (a.setBlockLine l m).granted = a.granted := by simp [Arbiter.setBlockLine]

/-- A line that joins or leaves the BLOCK-GRANTS line set leaves the queue in order (R78). -/
theorem Arbiter.Orderly.setBlockLine {a : Arbiter} (h : a.Orderly) (l : Line) (m : Bool) :
    (a.setBlockLine l m).Orderly := by
  unfold Arbiter.setBlockLine
  exact h.decided_of rfl rfl

/-- The loop stands where the washes and the sweeps do and the arbiter has only changed its line set (R78). -/
theorem State.Loops.of_blockLines (h : s.Loops) (washes : s.Washes) (same : s.SameWashes t)
    (sweeps : t.sweeping = s.sweeping) (orderly : t.act.arbiter.Orderly)
    (queue : t.act.arbiter.queue = s.act.arbiter.queue) (granted : t.act.arbiter.granted = s.act.arbiter.granted) :
    t.Loops := by
  refine State.Loops.of_serves ?_ rfl
  rw [sweeps, funext (same.bayWash washes)]
  exact h.of_arbiter orderly queue granted

theorem State.LoopFits.sampleLine (h : s.LoopFits) (washes : s.Washes) (l : Line) (level : Level) :
    (s.sampleLine l level).LoopFits := by
  have view := s.sampleLine_loopView l level
  have arbiter : (s.sampleLine l level).act.arbiter = s.act.arbiter
      ∨ ∃ m, (s.sampleLine l level).act.arbiter = s.act.arbiter.setBlockLine l m := by
    simp only at view
    split_ifs at view
    · exact .inr ⟨true, congrArg LoopView.arbiter view⟩
    · exact .inl (congrArg LoopView.arbiter view)
    · exact .inr ⟨false, congrArg LoopView.arbiter view⟩
    · exact .inl (congrArg LoopView.arbiter view)
  have sweeps : (s.sampleLine l level).sweeping = s.sweeping := by
    simp only at view
    split_ifs at view <;> exact congrArg LoopView.sweeps view
  refine ⟨?_, State.sampleLine_blockFits h.blocks l level⟩
  have same := s.sampleLine_sameWashes l level
  obtain arbiter | ⟨m, arbiter⟩ := arbiter
  · exact h.loops.of_same arbiter (same.bayWash washes) (congrFun sweeps)
  · refine h.loops.of_blockLines washes same sweeps ?_ ?_ ?_ <;> rw [arbiter]
    · exact h.loops.orderly.setBlockLine l m
    · simp
    · simp

theorem State.LoopFits.reroute (h : s.LoopFits) (washes : s.Washes) (l : Line) (e : Route) :
    (s.reroute l e).LoopFits := by
  refine ⟨?_, State.reroute_blockFits h.blocks l e⟩
  obtain ⟨m, again, -, -, view⟩ := s.reroute_loopView l e
  have same := s.reroute_sameWashes l e
  have arbiter := congrArg LoopView.arbiter view
  change (s.reroute l e).act.arbiter = _ at arbiter
  split_ifs at view arbiter
  · refine h.loops.of_blockLines washes same (congrArg LoopView.sweeps view) ?_ ?_ ?_ <;> rw [arbiter]
    · exact (h.loops.orderly.setBlockLine l m).setBlockLine l true
    · exact (Arbiter.setBlockLine_queue _ _ _).trans (Arbiter.setBlockLine_queue _ _ _)
    · exact (Arbiter.setBlockLine_granted _ _ _).trans (Arbiter.setBlockLine_granted _ _ _)
  · refine h.loops.of_blockLines washes same (congrArg LoopView.sweeps view) ?_ ?_ ?_ <;> rw [arbiter]
    · exact h.loops.orderly.setBlockLine l m
    · exact Arbiter.setBlockLine_queue _ _ _
    · exact Arbiter.setBlockLine_granted _ _ _

/-- A setting stored with its effect: the capacity taken by the arbiter (R75), or a stopped sweep parked anew (R114). -/
theorem State.LoopFits.storeSetting (h : s.LoopFits) (i : Fin 25) (v : Nat) :
    ((s.storeSetting i v).settingEffect i v).LoopFits := by
  refine h.of_quietView ?_ (s.storeSetting_quietView i v)
  have stored : (s.storeSetting i v).Loops := h.loops.of_same rfl (fun _ => rfl) (fun _ => rfl)
  have taken : (s.act.arbiter.setCapacity v).Orderly := Arbiter.Orderly.decided_of h.loops.orderly rfl rfl
  unfold State.settingEffect
  split
  · exact stored.setArbiter taken (by simp [Arbiter.setCapacity]) (by simp [Arbiter.setCapacity])
  · split
    · exact stored
    next b hb =>
      simp only
      split
      next stopped =>
        refine h.loops.of_same rfl (fun _ => rfl) (fun b' => ?_)
        rw [State.sweeping_set rfl]
        split
        next e => rw [e]; rfl
        · rfl
      · exact stored

end Sys2Proof.Machine
end

section
/-! # Commands through a port -/

namespace Sys2Proof.Machine

variable {s t u : State} (p : Port)

/-- Two states that differ in their ports and the stage of a YARD-RESET at most. -/
structure State.SameButPorts (s t : State) : Prop where
  ret : t.ret = s.ret
  act : t.act = { s.act with ports := t.act.ports, yardReset := t.act.yardReset }
  power : t.mainPower = s.mainPower

namespace State.SameButPorts

theorem refl (s : State) : s.SameButPorts s := ⟨rfl, rfl, rfl⟩

theorem trans (h : s.SameButPorts t) (h' : t.SameButPorts u) : s.SameButPorts u := by
  refine ⟨h'.ret.trans h.ret, ?_, h'.power.trans h.power⟩
  have act := h'.act
  rw [h.act] at act
  exact act

theorem setPort (s : State) (x : PortState) : s.SameButPorts (s.setPort p x) := ⟨rfl, rfl, rfl⟩

theorem sameWashes (h : s.SameButPorts t) : s.SameWashes t :=
  .of_same (by rw [h.ret]) (by rw [h.ret]) (by rw [h.act]) h.power

theorem loopView (h : s.SameButPorts t) : t.loopView = s.loopView := by
  obtain ⟨ret, act, -⟩ := h
  unfold State.loopView State.quietView State.sweeping
  rw [ret, act]

end State.SameButPorts

/-- What a port's command does beside the ports: nothing, or one request served (R162, R163). -/
inductive State.ThroughPort (s t : State) : Prop
  | still (h : s.SameButPorts t)
  | served (u : State) (p : Port) (f : Frame) (before : s.SameButPorts u) (after : (serve p f u).1.SameButPorts t)

namespace State.ThroughPort

theorem after (before : s.SameButPorts t) (h : t.ThroughPort u) : s.ThroughPort u := by
  cases h with
  | still h => exact .still (before.trans h)
  | served v p f h h' => exact .served v p f (before.trans h) h'

theorem take (s : State) (f : Frame) : s.ThroughPort (s.take p f) := .served s p f (.refl s) (.setPort p _ _)

theorem frameCompletes (s : State) (f : Frame) : s.ThroughPort (s.frameCompletes p f) := by
  unfold State.frameCompletes
  split_ifs
  · exact .still (.setPort p s _)
  · exact .still (.setPort p s _)
  · exact .still (.setPort p s _)
  · exact take p s f

theorem answerSent (s : State) : s.ThroughPort (s.answerSent p) := by
  unfold State.answerSent
  split
  · exact .still (.refl s)
  · split
    · exact .still ⟨rfl, rfl, rfl⟩
    · split
      · exact .still (.setPort p s _)
      · split
        · exact .still (.setPort p s _)
        next f _ => exact (take p _ f).after (.setPort p s _)

theorem receiveByte (s : State) (x : Byte) (err : Bool) : s.ThroughPort (s.receiveByte p x err) := by
  have hunting (y : Receiver) : s.SameButPorts (s.setReceiver p y) := .setPort p s _
  unfold State.receiveByte
  split
  · split
    · exact .still (hunting _)
    · exact .still (.refl s)
  · split
    · exact .still ((hunting _).trans (.setPort p _ _))
    · split
      · exact .still ((hunting _).trans (.setPort p _ _))
      · exact .still (hunting _)
      · exact (frameCompletes p _ _).after (hunting _)

theorem gap (s : State) : s.ThroughPort (s.gap p) := by
  unfold State.gap
  split
  · exact .still (.refl s)
  · exact .still (State.SameButPorts.trans (.setPort p s _) (.setPort p _ _))

end State.ThroughPort

/-- A request served is refused with nothing changed, or goes to its owner past the common checks (R165). -/
theorem serve_cases (f : Frame) (s : State) : (serve p f s).1 = s
    ∨ ∃ k, commonCheck p k f.body.length s = none ∧ (serve p f s).1 = (owner k p f.body s).1 := by
  unfold serve
  split
  · exact .inl rfl
  next k _ =>
    split
    · exact .inl rfl
    next h => exact .inr ⟨k, h, rfl⟩

end Sys2Proof.Machine
end

section
/-! # Every command keeps the law of the arbiter -/

namespace Sys2Proof.Machine

variable {s t : State}

/-- The pressure filter leaves the queue in order (R77). -/
theorem Arbiter.Orderly.pressureSample {a : Arbiter} (h : a.Orderly) (minimum : Nat) (sample : Option Nat) :
    (a.pressureSample minimum sample).Orderly := by
  unfold Arbiter.pressureSample
  exact h.decided_of rfl rfl

theorem State.LoopGround.of_ports (g : s.LoopGround) (h : s.SameButPorts t) : t.LoopGround where
  wash := by
    refine g.wash.of_same h.ret ?_ ?_ h.power <;> rw [h.act]
  capacity := by
    rw [h.act]
    exact g.capacity
  phases := by
    rw [h.ret]
    exact g.phases
  loops := g.loops.of_same (State.arbiter_of_loopView h.loopView) (h.sameWashes.bayWash g.wash.washes)
    (congrFun (State.sweeping_of_loopView h.loopView))

namespace State.LoopGround

variable (g : s.LoopGround) (blocks : s.quietView.BlockFits)

include g blocks

theorem fits : s.LoopFits := ⟨g.loops, blocks⟩

/-- Beside the views and the washes nothing the law reads is written. -/
theorem stays (same : s.SameWashes t) (view : t.loopView = s.loopView) : t.LoopFits :=
  (g.fits blocks).of_view g.wash.washes same view

/-- The wash cycle leaves the quiet view as it is. -/
theorem moves (loops : t.Loops) (view : t.quietView = s.quietView) : t.LoopFits :=
  (g.fits blocks).of_quietView loops view

theorem convert (ch : Probe) (code : Code) : (s.convert ch code).LoopFits := by
  refine g.moves blocks ?_ (s.convert_quietView ch code)
  unfold State.convert
  split
  swap
  · exact g.loops
  have moved : State.LoopGround (({ s with act := { s.act with scanNext := ch + 1 } }).setSlot ch
      ((s.act.slots[ch]).converted ch code)) :=
    ⟨g.wash.of_same rfl rfl rfl rfl, g.capacity, g.phases, g.loops.of_same rfl (fun _ => rfl) (fun _ => rfl)⟩
  unfold State.deliverSample
  split_ifs
  · exact moved.loops.of_same (State.arbiter_of_loopView (State.supplySample_loopView _ _))
      ((State.supplySample_sameWashes _ _).bayWash moved.wash.washes)
      (congrFun (State.sweeping_of_loopView (State.supplySample_loopView _ _)))
  · exact moved.loops.setArbiter (moved.loops.orderly.pressureSample _ _) (by simp [Arbiter.pressureSample])
      (by simp [Arbiter.pressureSample])
  · exact moved.conductivitySample _ _

section

variable (p : Port) (body : List Byte)

/-- DOCK and UNDOCK write the yard table alone (R13 to R15). -/
theorem binds (same : s.SameWashes t) (frame : t.act = s.act ∧ t.ret.routes = s.ret.routes) : t.LoopFits where
  loops := g.loops.of_same (by rw [frame.1]) (same.bayWash g.wash.washes)
    (fun b => by rw [State.sweeping, frame.1]; rfl)
  blocks := by
    intro l
    rw [State.quietView, frame.1, frame.2]
    exact blocks l

theorem ownWriteRoute : (ownWriteRoute p body s).1.LoopFits := by
  unfold Machine.ownWriteRoute
  split
  · split
    · split
      · exact g.fits blocks
      · exact (g.fits blocks).reroute g.wash.washes _ _
    · exact g.fits blocks
  · exact g.fits blocks

theorem ownWriteSetting : (ownWriteSetting p body s).1.LoopFits := by
  unfold Machine.ownWriteSetting
  split
  · split
    · exact g.fits blocks
    · exact (g.fits blocks).storeSetting _ _
  · exact g.fits blocks

/-- OPEN-YARD ends the RECOVERY cause, and its check of the releases leaves the loop as it is (R79, R173). -/
theorem ownOpenYard : (ownOpenYard p body s).1.LoopFits := by
  unfold Machine.ownOpenYard
  split
  · exact g.fits blocks
  · have ended : s.act.arbiter.endRecovery.Orderly := Arbiter.Orderly.decided_of g.loops.orderly rfl rfl
    have served : s.openMode.Loops :=
      (g.loops.setArbiter ended (by simp [Arbiter.endRecovery]) (by simp [Arbiter.endRecovery])).of_same rfl
        (fun _ => rfl) (fun _ => rfl)
    have opened : s.openMode.LoopFits := by
      refine ⟨served, fun l => ?_⟩
      have kept : s.openMode.quietView.blockLines = s.quietView.blockLines := by
        simp [State.openMode, State.quietView, Arbiter.endRecovery]
      rw [kept]
      exact blocks l
    exact opened.of_view (g.wash.washes.of_same rfl rfl rfl rfl) (State.lapseAll_sameWashes _)
      (State.lapseAll_loopView _)

/-- The owner of each kind keeps the law. -/
theorem owner (k : Kind) : (owner k p body s).1.LoopFits := by
  by_cases hr : k.reports = true
  · rw [owner_of_reports p body hr]
    exact g.fits blocks
  have beside (hk : k.besideTheLoop = true) (same : s.SameWashes (Machine.owner k p body s).1) :=
    g.stays blocks same (owner_loopView p body hk)
  cases k <;> try exact absurd rfl hr
  case startWash => exact g.moves blocks (g.ownStartWash p body) (ownStartWash_quietView p body)
  case phaseGo => exact g.moves blocks (g.ownPhaseGo p body) (ownPhaseGo_quietView p body)
  case abortWash => exact g.moves blocks (g.ownAbortWash p body) (ownAbortWash_quietView p body)
  case cancelWash => exact g.moves blocks (g.ownCancelWash p body) (ownCancelWash_quietView p body)
  case dock => exact g.binds blocks (g.wash.ownDock p body) (ownDock_frame p body)
  case undock => exact g.binds blocks (g.wash.ownUndock p body) (ownUndock_frame p body)
  case writeRoute => exact g.ownWriteRoute blocks p body
  case writeSetting => exact g.ownWriteSetting blocks p body
  case openYard => exact g.ownOpenYard blocks p body
  case events => exact beside rfl (.of_same rfl rfl rfl rfl)
  case yardReset => exact beside rfl (.of_same rfl rfl rfl rfl)
  case ackLine => exact beside rfl (ownAckLine_sameWashes p body)
  case resume => exact beside rfl (ownResume_sameWashes p body)
  case admitTanker => exact beside rfl (g.wash.ownAdmit p body)
  case depart => exact beside rfl (g.wash.ownDepart p body)
  case setIntent => exact beside rfl (ownSetIntent_sameWashes p body)
  case emptied => exact beside rfl (ownEmptied_sameWashes p body)
  case voidRelease => exact beside rfl (ownVoidRelease_sameWashes p body)
  case inspectPass => exact beside rfl (ownInspectPass_sameWashes p body)
  case inspectFail => exact beside rfl (ownInspectFail_sameWashes p body)
  case fillStart => exact beside rfl (ownFillStart_sameWashes p body)
  case fillEnd => exact beside rfl (ownFillEnd_sameWashes p body)
  case fillAbort => exact beside rfl (ownFillAbort_sameWashes p body)
  case writeClass => exact beside rfl (ownWriteClass_sameWashes p body)
  case writeProgram => exact beside rfl (ownWriteProgram_sameWashes p body)
  case writeFollow => exact beside rfl (ownWriteFollow_sameWashes p body)
  case readRoute => exact beside rfl (ownReadRoute_sameWashes p body)
  case setClock => exact beside rfl (ownSetClock_sameWashes p body)

/-- A port's command keeps the law. -/
theorem throughPort (h : s.ThroughPort t) : t.LoopFits := by
  cases h with
  | still h => exact g.stays blocks h.sameWashes h.loopView
  | served u p f before after =>
    have g' := g.of_ports before
    have blocks' : u.quietView.BlockFits := by
      rw [State.quietView_of_loopView before.loopView]
      exact blocks
    have served : (serve p f u).1.LoopFits := by
      obtain h | ⟨k, -, h⟩ := serve_cases p f u <;> rw [h]
      · exact g'.fits blocks'
      · exact g'.owner blocks' p f.body k
    have washes : (serve p f u).1.Washes := by
      obtain h | ⟨k, -, h⟩ := serve_cases p f u <;> rw [h]
      · exact g'.wash.washes
      · exact g'.wash.owner k p f.body
    exact served.of_view washes after.sameWashes after.loopView

end

end State.LoopGround

/-! ## The starts -/

/-- A part just started keeps the law: nothing is queued, granted or running, and no line is active (R82, R114,
R147). -/
theorem State.LoopFits.of_started {n : Nat} (arbiter : s.act.arbiter = Arbiter.start n)
    (units : ∀ b : Bay, s.act.units[b] = WashUnit.start) (sweeps : ∀ b, s.sweeping b = false)
    (lines : ∀ l : Line, (s.act.lines[l]).accepted = (s.ret.routes[l]).polarity.inactiveLevel) : s.LoopFits := by
  have idle (b : Bay) : s.bayWash b = none := by rw [State.bayWash, units]; rfl
  refine ⟨⟨⟨⟨?_, ?_, ?_⟩, ?_⟩, fun b r => ?_, ?_, ?_, fun b => ?_, fun b => ?_⟩, fun l => ?_⟩
  all_goals simp only [arbiter, idle, sweeps, State.quietView, Arbiter.start, Queues]
  · simp
  · simp
  · simp
  · simp
  · simp
  · simp [sharesOf]
  · omega
  · simp
  · simp
  · have inactive := lines l
    cases hp : (s.ret.routes[l]).polarity <;> simp_all [Route.Blocks, Polarity.inactiveLevel, noneOf]

end Sys2Proof.Machine
end

section
namespace Sys2Proof.Machine

variable {s t : State}

theorem Active.start_parked (r : Retained) (changed : RefSet) (b : Bay) :
    ((Active.start r changed).outputs[b]).generator = none := by
  simp [Active.start_eq, startedActive]

theorem Active.start_lines (r : Retained) (changed : RefSet) (l : Line) :
    ((Active.start r changed).lines[l]).accepted = (r.routes[l]).polarity.inactiveLevel := by
  simp [Active.start, mapTable_eq_map]

theorem Active.start_units (r : Retained) (changed : RefSet) (b : Bay) :
    (Active.start r changed).units[b] = WashUnit.start := by
  simp [Active.start]

/-- A start of the active domain from the retained one keeps the law (R169, R170). -/
theorem State.LoopFits.start {changed : RefSet} (act : s.act = Active.start s.ret changed) : s.LoopFits := by
  refine .of_started (n := s.ret.loopCapacity) ?_ (fun b => ?_) (fun b => ?_) (fun l => ?_)
  · rw [act]
    rfl
  · rw [act]
    exact Active.start_units _ _ b
  · rw [State.sweeping, act, Active.start_parked]
    rfl
  · rw [act]
    exact Active.start_lines _ _ l

/-! ## Every step keeps the law -/

/-- The law, which speaks of a powered part alone (R168). -/
def State.LoopKept (s : State) : Prop := s.mainPower = true → s.LoopFits

theorem whenPowered_loopKept {f : State → State} (law : s.LoopKept) (hf : s.mainPower = true → (f s).LoopFits) :
    (whenPowered s f).LoopKept := by
  unfold whenPowered
  split
  next hp => exact fun _ => hf hp
  · exact law

/-- Every command completes and keeps the law, from a state that keeps what the law rests on. -/
theorem exec_loopKept (ground : s.mainPower = true → s.LoopGround ∧ s.quietView.BlockFits) (i : Instr) :
    ∃ t, exec i s = .next t ∧ t.LoopKept := by
  have law : s.LoopKept := fun hp => (ground hp).1.fits (ground hp).2
  have powered {f : State → State} (hf : s.LoopGround → s.quietView.BlockFits → (f s).LoopFits) :
      (whenPowered s f).LoopKept := whenPowered_loopKept law fun hp => hf (ground hp).1 (ground hp).2
  have moves {f : State → State} (loops : s.LoopGround → (f s).Loops) (view : (f s).quietView = s.quietView) :
      (whenPowered s f).LoopKept := powered fun g blocks => g.moves blocks (loops g) view
  have stays {f : State → State} (same : s.SameWashes (f s)) (view : (f s).loopView = s.loopView) :
      (whenPowered s f).LoopKept := powered fun g blocks => g.stays blocks same view
  have port {f : State → State} (h : s.ThroughPort (f s)) : (whenPowered s f).LoopKept :=
    powered fun g blocks => g.throughPort blocks h
  have expires (b : Bay) (runs : Bool) (stopped : WashUnit) (hs : stopped.active = (s.act.units[b]).active) (y : CState)
      (n : Note) : (whenPowered s fun s' => s'.expire b runs stopped y n).LoopKept :=
    moves (fun g => g.expire hs y n) (s.expire_quietView b runs stopped y n)
  cases h : i.request? with
  | some q =>
    rw [← requestOf_of_request h]
    exact ⟨_, exec_requestOf _ _ _ _ s, port (.frameCompletes _ s _)⟩
  | none =>
    cases i with
    | yardResetEffect =>
      refine ⟨_, rfl, powered fun g blocks => ?_⟩
      split
      · exact g.fits blocks
      · exact .start rfl
    | coldStart =>
      refine ⟨_, rfl, ?_⟩
      split
      · exact fun _ => .start rfl
      · exact law
    | powerReturn =>
      refine ⟨_, rfl, ?_⟩
      split
      · exact fun _ => .start rfl
      · exact law
    | mainPowerLoss =>
      refine ⟨_, rfl, ?_⟩
      unfold State.losePower
      split
      · exact fun hp => by cases hp
      · exact law
    | backupSupplyLoss =>
      refine ⟨_, rfl, ?_⟩
      unfold State.loseBackup
      split
      · exact law
      next off => exact fun hp => absurd hp off
    | requestByteReceived p x err => exact ⟨_, rfl, port (.receiveByte p s x err)⟩
    | interByteTimeout p => exact ⟨_, rfl, port (.gap p s)⟩
    | answerSendComplete p => exact ⟨_, rfl, port (.answerSent p s)⟩
    | scanConversion ch code => exact ⟨_, rfl, powered fun g blocks => g.convert blocks ch code⟩
    | pulseSample m level => exact ⟨_, rfl, stays (s.samplePulse_sameWashes m level) (s.samplePulse_loopView m level)⟩
    | lineSample l level => exact ⟨_, rfl, powered fun g blocks => (g.fits blocks).sampleLine g.wash.washes l level⟩
    | grant => exact ⟨_, rfl, moves (fun g => g.grantStep) s.grantStep_quietView⟩
    | accountingIntervalClose b => exact ⟨_, rfl, moves (fun g => g.closeInterval b) (s.closeInterval_quietView b)⟩
    | phaseTimerTick b => exact ⟨_, rfl, moves (fun g => g.phaseTick b) (s.phaseTick_quietView b)⟩
    | phaseTimerExpiry b => exact ⟨_, rfl, moves (fun g => g.phaseExpiry b) (s.phaseExpiry_quietView b)⟩
    | handoverTimerExpiry b => exact ⟨_, rfl, expires b _ { s.act.units[b] with handoverTimer := none } rfl _ _⟩
    | reEntryTimerExpiry b => exact ⟨_, rfl, expires b _ { s.act.units[b] with reEntryTimer := none } rfl _ _⟩
    | holdTimerExpiry b => exact ⟨_, rfl, expires b _ { s.act.units[b] with holdTimer := none } rfl _ _⟩
    | washHold b => exact ⟨_, rfl, moves (fun g => g.holdStep b) (s.holdStep_quietView b)⟩
    | washResume b => exact ⟨_, rfl, moves (fun g => g.resumeStep b) (s.resumeStep_quietView b)⟩
    | fillStoppedMark => exact ⟨_, rfl, stays s.stoppedStep_sameWashes s.stoppedStep_loopView⟩
    | sweepTick b => exact ⟨_, rfl, stays (s.sweepStep_sameWashes b) (s.sweepStep_loopView b)⟩
    | releaseTimerCheck => exact ⟨_, rfl, stays s.timerCheck_sameWashes s.timerCheck_loopView⟩
    | releaseLapse r => exact ⟨_, rfl, stays (s.lapseStep_sameWashes r) (s.lapseStep_loopView r)⟩
    | yardClockSecond =>
      refine ⟨_, rfl, fun hp => ?_⟩
      have on : s.mainPower = true := s.clockSecond_sameWashes.power ▸ hp
      exact (ground on).1.stays (ground on).2 s.clockSecond_sameWashes s.clockSecond_loopView
    | ageMillisecond => exact ⟨_, rfl, stays s.ageStep_sameWashes rfl⟩
    | _ => cases h

/-- The capacity is setting 1, which stands from 1 to 12 (R66, R75, R174). -/
theorem State.RangeLaw.capacity (h : s.RangeLaw) (hp : s.mainPower = true) :
    1 ≤ s.act.arbiter.capacity ∧ s.act.arbiter.capacity ≤ 12 := by
  obtain ⟨stored, powered⟩ := h
  obtain ⟨marker, copy, -⟩ := powered hp
  obtain ⟨settings, -⟩ := stored marker
  obtain ⟨low, high, -⟩ := settings 0
  rw [copy]
  exact ⟨low, high⟩

/-- The laws of a powered part give what the law of the arbiter rests on. -/
theorem State.Sound.loopGround (h : s.Sound) (hp : s.mainPower = true) : s.LoopGround where
  wash := h.washGround hp
  capacity := h.ranges.capacity hp
  phases := (s.washRanges h.ranges hp).phases
  loops := ((h.washGround hp).washes.loopFits h.loop hp).loops

/-- Settles O18: every command keeps the law by the bays (`exec_loopKept`), which is the law of the arbiter where the
laws of the wash units, the records and the ranges hold, and every step keeps those. -/
theorem stepKeepsLoopLaw : Obligations.StepKeepsLoopLaw := by
  intro s t sound hstep
  have fits : t.LoopKept := by
    unfold step at hstep
    split at hstep
    · cases hstep
      exact fun hp => (sound.washGround hp).washes.loopFits sound.loop hp
    next i rest _ =>
      let s' : State := { s with pending := rest }
      have ground (hp : s.mainPower = true) : s'.LoopGround ∧ s'.quietView.BlockFits :=
        have g := sound.loopGround hp
        ⟨⟨g.wash.of_same rfl rfl rfl rfl, g.capacity, g.phases, g.loops.of_same rfl (fun _ => rfl) (fun _ => rfl)⟩,
          (g.wash.washes.loopFits sound.loop hp).blocks⟩
      obtain ⟨u, hu, kept⟩ := exec_loopKept (s := s') ground i
      cases hu.symm.trans hstep
      exact kept
  intro hp
  have washes : t.Washes := t.washLaw_iff.mp (stepKeepsWashLaw s t sound hstep) hp
  have marker := State.RangeLaw.marker (stepKeepsRangeLaw s t sound.ranges hstep) hp
  exact (fits hp).loopLaw washes marker (stepKeepsRecordLaw s t sound.ranges sound.records hstep) hp

end Sys2Proof.Machine
end

section
/-! # A shut yard (R79, R170)

In RECOVERY no position has a binding, every wash unit and the rack fill unit are idle and nothing is queued, so no
command that is taken there makes a compartment FILLING. -/

namespace Sys2Proof.Machine

variable {s t : State}

/-- No compartment is FILLING. -/
def State.Unfilled (s : State) : Prop :=
  ∀ (r : RecordRef) (c : Compartment), s.ret.pool[r] = some c → c.state ≠ .filling

/-- What the laws give of a yard in RECOVERY. -/
structure State.Shut (s : State) : Prop where
  unfilled : s.Unfilled
  unwashed : ∀ (r : RecordRef) (c : Compartment), s.ret.pool[r] = some c → c.state.isWash = false
  idle : ∀ b : Bay, (s.act.units[b]).active = none
  rackIdle : s.act.fillUnit.active = none
  queue : s.act.arbiter.queue = []

/-- The laws of a powered part in RECOVERY give it. -/
theorem State.Sound.shut (h : s.Sound) (hp : s.mainPower = true) (hm : s.act.mode = .recovery) : s.Shut := by
  obtain ⟨-, -, shut⟩ := h.mode hp
  obtain ⟨-, records⟩ := shut hm
  obtain ⟨units, -⟩ := h.washing hp
  obtain ⟨fills, -⟩ := h.filling hp
  obtain ⟨-, -, entries, -⟩ := h.loop hp
  have idle (b : Bay) : (s.act.units[b]).active = none := by
    by_contra hu
    obtain ⟨r, hr⟩ := Option.ne_none_iff_exists'.mp hu
    obtain ⟨⟨c, hc, hw⟩, -⟩ := units b r hr
    rw [(records r c hc).1] at hw
    cases hw
  refine ⟨fun r c hc => (records r c hc).2, fun r c hc => (records r c hc).1, idle, ?_, ?_⟩
  · by_contra hu
    obtain ⟨r, hr⟩ := Option.ne_none_iff_exists'.mp hu
    obtain ⟨c, hc, hf⟩ := (fills r).mpr hr
    exact (records r c hc).2 hf
  · refine List.eq_nil_iff_forall_not_mem.mpr fun e he => ?_
    have active := (entries e he).1
    rw [idle] at active
    cases active

/-- It is read off the pool, the units and the queue. -/
theorem State.Shut.of_same (h : s.Shut) (pool : t.ret.pool = s.ret.pool) (units : t.act.units = s.act.units)
    (fillUnit : t.act.fillUnit = s.act.fillUnit) (arbiter : t.act.arbiter = s.act.arbiter) : t.Shut := by
  obtain ⟨unfilled, unwashed, idle, rackIdle, queue⟩ := h
  refine ⟨?_, ?_, ?_, ?_, ?_⟩
  · unfold State.Unfilled
    rwa [pool]
  · rwa [pool]
  · rwa [units]
  · rwa [fillUnit]
  · rwa [arbiter]

/-! ## Moves that make no compartment FILLING -/

namespace State.Unfilled

theorem of_pool (h : s.Unfilled) (pool : t.ret.pool = s.ret.pool) : t.Unfilled := by
  unfold State.Unfilled
  rw [pool]
  exact h

theorem change (h : s.Unfilled) (r : RecordRef) {c : Compartment} (hc : c.state ≠ .filling) :
    (s.changeRecord r c).Unfilled := by
  intro k d hd
  rw [State.changeRecord_pool, table_set] at hd
  split at hd
  · cases hd
    exact hc
  · exact h k d hd

theorem foldl {α : Type} {f : State → α → State} (hf : ∀ (s : State) x, s.Unfilled → (f s x).Unfilled) (xs : List α)
    (h : s.Unfilled) : (xs.foldl f s).Unfilled := by
  induction xs generalizing s with
  | nil => exact h
  | cons x xs ih => exact ih (hf s x h)

theorem lapse (h : s.Unfilled) (r : RecordRef) : (s.lapse r).Unfilled := by
  unfold State.lapse
  obtain ⟨c, -, -, same⟩ | ⟨-, same⟩ := s.transition_cases r [.released] Compartment.lapsed <;> rw [same]
  · exact h.change r (by simp [Compartment.lapsed])
  · exact h

theorem lapseStep (h : s.Unfilled) (r : RecordRef) : (s.lapseStep r).Unfilled := by
  unfold State.lapseStep
  split
  · refine lapse ?_ r
    exact h.of_pool rfl
  · exact h

theorem setClockTo (h : s.Unfilled) (reading : Nat) : (s.setClockTo reading).Unfilled := by
  intro r c hc
  rw [State.setClockTo, mapTable_eq_map, Fin.getElem_fin, Vector.getElem_map] at hc
  obtain ⟨d, hd, rfl⟩ := Option.map_eq_some_iff.mp hc
  exact h r d hd

theorem admitTanker (h : s.Unfilled) (i : Slot) (token : List Byte) (cs : List (Nat × List ClassNo)) :
    (s.admitTanker i token cs).Unfilled := by
  unfold State.admitTanker
  rw [State.admitRecords_eq_foldl]
  exact foldl (fun s x hs => hs.change _ (by simp [newCompartment])) _ (h.of_pool rfl)

theorem depart (h : s.Unfilled) (i : Slot) (x : Tanker) : (s.depart i x).Unfilled := by
  rw [State.depart_eq]
  intro r c hc
  change (x.compartments.foldl (fun v (k : RecordRef) => v.set k none) s.ret.pool)[r] = some c at hc
  rw [table_foldl_set] at hc
  split at hc
  · cases hc
  · exact h r c hc

/-- After the step of R170 no compartment is FILLING: a FILLING one has a fill, and is LADEN (R4, R20). -/
theorem recover (records : s.RecordLaw) (marker : s.ret.markerValid = true) : s.recover.Unfilled := by
  intro r c hc
  have pool : s.recover.ret.pool[r] = (s.ret.pool[r]).map Compartment.mapped := by
    simp [State.recover, Retained.mapped, mapTable_eq_map]
  obtain ⟨d, hd, rfl⟩ := Option.map_eq_some_iff.mp (pool.symm.trans hc)
  obtain ⟨-, -, -, -, -, -, -, -, fill⟩ := (s.recordLaw_iff.mp records marker r d hd).parts
  unfold Compartment.mapped
  split
  · simp
  · split
    · simp [Compartment.ladenWith]
    next noFill =>
      intro hf
      rw [hf] at fill
      obtain ⟨f, hf'⟩ := Option.isSome_iff_exists.mp fill
      exact noFill f hf hf'

theorem coldStart (s : State) : s.coldStart.Unfilled := by
  intro r c hc
  simp [State.coldStart, Retained.coldStart] at hc

end State.Unfilled

/-! ## Lines leave the pool as it is -/

section

variable (s)

theorem State.foldl_pool {α : Type} {f : State → α → State} (hf : ∀ (s : State) x, (f s x).ret.pool = s.ret.pool)
    (xs : List α) : (xs.foldl f s).ret.pool = s.ret.pool := by
  induction xs generalizing s with
  | nil => rfl
  | cons x xs ih => exact (ih (f s x)).trans (hf s x)

theorem State.joinHold_pool (p : Position) (l : Line) : (s.joinHold p l).ret.pool = s.ret.pool := by
  cases p with
  | bay b => rfl
  | rack =>
    unfold State.joinHold State.rackHeld
    simp only
    split
    · split <;> rfl
    · rfl

theorem State.lineBecomesActive_pool (l : Line) (e : Route) : (s.lineBecomesActive l e).ret.pool = s.ret.pool := by
  have action : (s.lineAction l e.action).ret.pool = s.ret.pool := by
    unfold State.lineAction
    cases e.action with
    | note => rfl
    | holdBay b => rfl
    | holdAll => rfl
    | stopRack => exact s.joinHold_pool .rack l
    | blockGrants => rfl
  unfold State.lineBecomesActive
  split
  · rfl
  · refine (State.foldl_pool _ (fun t p => ?_) _).trans action
    split <;> rfl

theorem State.sampleLine_pool (l : Line) (level : Level) : (s.sampleLine l level).ret.pool = s.ret.pool := by
  unfold State.sampleLine
  simp only
  split
  · split
    · exact State.lineBecomesActive_pool _ l _
    · rfl
  · rfl

theorem State.reroute_pool (l : Line) (e : Route) : (s.reroute l e).ret.pool = s.ret.pool := by
  have trimmed (old : PortSet) : ((s.setRoute l e).trimPending l old e.notify).ret.pool = s.ret.pool := by
    refine State.foldl_pool (s.setRoute l e) (fun t p => ?_) _
    split <;> rfl
  unfold State.reroute
  simp only
  split
  · exact (State.lineBecomesActive_pool _ l e).trans (trimmed _)
  · exact trimmed _

end

theorem State.settingEffect_pool (s : State) (i : Fin 25) (v : Nat) : (s.settingEffect i v).ret.pool = s.ret.pool := by
  unfold State.settingEffect
  split
  · rfl
  · split
    · rfl
    · simp only
      split <;> rfl

/-! ## Events of a shut yard -/

namespace State.Shut

variable (h : s.Shut) (b : Bay)

include h

theorem runningAt : s.runningAt b = none := by
  rw [State.runningAt, h.idle b]

theorem expire_pool (runs : Bool) (stopped : WashUnit) (y : CState) (n : Note) :
    (s.expire b runs stopped y n).ret.pool = s.ret.pool := by
  unfold State.expire
  rw [h.idle b]
  split <;> rfl

theorem holdStep : s.holdStep b = s := by
  simp only [State.holdStep, h.idle b]

theorem resumeStep : s.resumeStep b = s := by
  simp only [State.resumeStep, h.idle b]

theorem phaseTick : s.phaseTick b = s := by
  rw [State.phaseTick, h.runningAt b]

theorem phaseExpiry : s.phaseExpiry b = s := by
  rw [State.phaseExpiry, h.runningAt b]

theorem closeInterval : s.closeInterval b = s := by
  simp only [State.closeInterval, h.runningAt b]

theorem conductivitySample (sample : Option Nat) : s.conductivitySample b sample = s := by
  rw [State.conductivitySample, h.runningAt b]

theorem grantStep_pool : s.grantStep.ret.pool = s.ret.pool := by
  have none : s.act.arbiter.request = none := by
    by_contra hr
    obtain ⟨⟨e, backfill⟩, hr⟩ := Option.ne_none_iff_exists'.mp hr
    have := Arbiter.mem_queue_of_request hr
    simp [h.queue] at this
  rw [State.grantStep, none]
  rfl

theorem rackPulse : s.rackPulse = s := by
  rw [State.rackPulse, h.rackIdle]

theorem samplePulse_pool (m : Position) (level : Level) : (s.samplePulse m level).ret.pool = s.ret.pool := by
  have handed (c : PulseChannel) : ((s.setPulse m c).handPulse m).ret.pool = s.ret.pool := by
    have h' : (s.setPulse m c).Shut := h.of_same rfl rfl rfl rfl
    cases m with
    | bay b =>
      unfold State.handPulse State.bayPulse
      simp only
      split <;> rfl
    | rack =>
      rw [State.handPulse, h'.rackPulse]
      rfl
  unfold State.samplePulse
  simp only
  split
  · exact handed _
  · rfl

theorem stoppedStep_pool : s.stoppedStep.ret.pool = s.ret.pool := by
  unfold State.stoppedStep
  split
  · simp only [h.rackIdle]
    rfl
  · rfl

theorem convert_pool (ch : Probe) (code : Code) : (s.convert ch code).ret.pool = s.ret.pool := by
  have moved : State.Shut (({ s with act := { s.act with scanNext := ch + 1 } }).setSlot ch
      ((s.act.slots[ch]).converted ch code)) := h.of_same rfl rfl rfl rfl
  unfold State.convert
  split
  · unfold State.deliverSample
    split_ifs
    · unfold State.supplySample
      split <;> rfl
    · rfl
    · rw [moved.conductivitySample]
      rfl
  · rfl

end State.Shut

/-! ## Requests taken in a shut yard -/

/-- The kinds taken in RECOVERY (10.6). -/
def Kind.takenShut : Kind → Bool
  | .setIntent | .dock | .undock | .startWash | .phaseGo | .abortWash | .inspectPass | .inspectFail | .fillStart
  | .fillEnd | .fillAbort => false
  | _ => true

/-- The common checks pass no other kind in RECOVERY (R165). -/
theorem takenShut_of_commonCheck {p : Port} {k : Kind} {n : Nat} (h : commonCheck p k n s = none)
    (hm : s.act.mode = .recovery) : k.takenShut = true := by
  by_contra hk
  have row : ∀ e, catalogue p k = some e → e.inRecovery = false := by
    cases k <;> try exact absurd rfl hk
    all_goals
      cases p <;> intro e he <;> cases he <;> rfl
  unfold commonCheck at h
  split at h
  · cases h
  next e he =>
    simp only [hm, row e he, and_self, if_true] at h
    split at h <;> cases h

namespace State.Shut

variable (h : s.Shut) (p : Port) (body : List Byte)

include h

theorem ownAdmit : (ownAdmit p body s).1.Unfilled := by
  unfold Machine.ownAdmit
  split
  · exact h.unfilled
  · split
    · exact h.unfilled
    · split
      · exact h.unfilled
      · split
        · split
          · exact h.unfilled
          · split
            · exact h.unfilled
            · split
              · exact h.unfilled
              · split
                · exact h.unfilled
                · exact h.unfilled.admitTanker _ _ _
        · exact h.unfilled

theorem ownDepart : (ownDepart p body s).1.Unfilled := by
  unfold Machine.ownDepart
  split
  · split
    · exact h.unfilled
    · split_ifs
      · exact h.unfilled
      · exact h.unfilled
      · exact h.unfilled.depart _ _
  · exact h.unfilled

theorem ownEmptied : (ownEmptied p body s).1.Unfilled := by
  unfold Machine.ownEmptied
  split
  · split
    · exact h.unfilled
    · split
      · exact h.unfilled
      · exact h.unfilled.change _ (by simp)
  · exact h.unfilled

theorem ownVoidRelease : (ownVoidRelease p body s).1.Unfilled := by
  unfold Machine.ownVoidRelease
  split
  · split
    · exact h.unfilled
    · split
      · exact h.unfilled
      · exact h.unfilled.change _ (by simp)
  · exact h.unfilled

/-- No compartment is in a wash state to cancel (R57). -/
theorem ownCancelWash : (ownCancelWash p body s).1 = s := by
  unfold Machine.ownCancelWash
  split
  · split
    · rfl
    next x hx =>
      have := h.unwashed x.ref x.record (State.record_of_nameAtSlot hx)
      simp [this]
  · rfl

theorem ownWriteSetting : (ownWriteSetting p body s).1.Unfilled := by
  refine h.unfilled.of_pool ?_
  unfold Machine.ownWriteSetting
  split
  · split
    · rfl
    · exact State.settingEffect_pool _ _ _
  · rfl

theorem ownWriteRoute : (ownWriteRoute p body s).1.Unfilled := by
  refine h.unfilled.of_pool ?_
  unfold Machine.ownWriteRoute
  split
  · split
    · split
      · rfl
      · exact s.reroute_pool _ _
    · rfl
  · rfl

theorem ownOpenYard : (ownOpenYard p body s).1.Unfilled := by
  unfold Machine.ownOpenYard
  split
  · exact h.unfilled
  · exact State.Unfilled.foldl (fun s r hs => hs.lapse r) _ (h.unfilled.of_pool rfl)

theorem ownSetClock : (ownSetClock p body s).1.Unfilled := by
  unfold Machine.ownSetClock
  split
  · exact h.unfilled.setClockTo _
  · exact h.unfilled

theorem ownAckLine : (ownAckLine p body s).1.Unfilled := by
  refine h.unfilled.of_pool ?_
  unfold Machine.ownAckLine
  repeat' split
  all_goals rfl

theorem ownResume : (ownResume p body s).1.Unfilled := by
  have resumed (pos : Position) : (resumeAt pos s).1.ret.pool = s.ret.pool := by
    unfold resumeAt
    split <;> rfl
  refine h.unfilled.of_pool ?_
  unfold Machine.ownResume
  split
  · exact resumed _
  · split
    · rfl
    · exact resumed _
  · rfl

theorem ownWriteClass : (ownWriteClass p body s).1.Unfilled := by
  refine h.unfilled.of_pool ?_
  unfold Machine.ownWriteClass
  repeat' split
  all_goals rfl

theorem ownWriteProgram : (ownWriteProgram p body s).1.Unfilled := by
  refine h.unfilled.of_pool ?_
  unfold Machine.ownWriteProgram
  repeat' split
  all_goals rfl

theorem ownWriteFollow : (ownWriteFollow p body s).1.Unfilled := by
  refine h.unfilled.of_pool ?_
  unfold Machine.ownWriteFollow
  repeat' split
  all_goals rfl

theorem ownReadRoute : (ownReadRoute p body s).1.Unfilled := by
  refine h.unfilled.of_pool ?_
  unfold Machine.ownReadRoute
  repeat' split
  all_goals rfl

/-- A request taken in RECOVERY makes no compartment FILLING. -/
theorem owner {k : Kind} (hk : k.takenShut = true) : (owner k p body s).1.Unfilled := by
  by_cases hr : k.reports = true
  · rw [owner_of_reports p body hr]
    exact h.unfilled
  cases k <;> try exact absurd rfl hr
  case setIntent | dock | undock | startWash | phaseGo | abortWash | inspectPass | inspectFail | fillStart | fillEnd
    | fillAbort => cases hk
  case events => exact h.unfilled
  case yardReset => exact h.unfilled
  case ackLine => exact h.ownAckLine p body
  case resume => exact h.ownResume p body
  case admitTanker => exact h.ownAdmit p body
  case depart => exact h.ownDepart p body
  case emptied => exact h.ownEmptied p body
  case voidRelease => exact h.ownVoidRelease p body
  case cancelWash =>
    change (Machine.ownCancelWash p body s).1.Unfilled
    rw [h.ownCancelWash p body]
    exact h.unfilled
  case writeClass => exact h.ownWriteClass p body
  case writeProgram => exact h.ownWriteProgram p body
  case writeFollow => exact h.ownWriteFollow p body
  case writeRoute => exact h.ownWriteRoute p body
  case writeSetting => exact h.ownWriteSetting p body
  case readRoute => exact h.ownReadRoute p body
  case setClock => exact h.ownSetClock p body
  case openYard => exact h.ownOpenYard p body

end State.Shut

end Sys2Proof.Machine
end

section
/-! # Every step keeps the law of the yard mode -/

namespace Sys2Proof.Machine

variable {s t : State}

/-! ## The law, and what it reads -/

/-- The mode with what is set by it (R79, R125). -/
def State.modeView (s : State) : YardMode × Bool × Bool := (s.act.mode, s.act.releaseTimer, s.act.arbiter.recovery)

/-- The law of the yard mode, but for the wash states: what the law of the wash units says of those follows from the
bindings. -/
structure State.ModeFits (s : State) : Prop where
  recovery : s.act.arbiter.recovery = true ↔ s.act.mode = .recovery
  timer : s.act.releaseTimer = true ↔ s.act.mode = .opened
  unbound : s.act.mode = .recovery → ∀ q : Fin 5, s.ret.bindings[q] = none
  unfilled : s.act.mode = .recovery → s.Unfilled

theorem State.modeView_of_quietView (h : t.quietView = s.quietView) : t.modeView = s.modeView :=
  congrArg (fun x : QuietView => (x.mode, x.releaseTimer, x.recovery)) h

theorem State.bindings_of_quietView (h : t.quietView = s.quietView) : t.ret.bindings = s.ret.bindings :=
  congrArg QuietView.bindings h

/-- The mode and what it sets stand, the bindings do in RECOVERY, and nothing becomes FILLING there. -/
theorem State.ModeFits.stays (h : s.ModeFits) (view : t.modeView = s.modeView)
    (bindings : s.act.mode = .recovery → t.ret.bindings = s.ret.bindings)
    (unfilled : s.act.mode = .recovery → t.Unfilled) : t.ModeFits := by
  obtain ⟨recovery, timer, unbound, -⟩ := h
  obtain ⟨mode, view⟩ := Prod.mk.inj view
  obtain ⟨releaseTimer, cause⟩ := Prod.mk.inj view
  refine ⟨?_, ?_, fun hm => ?_, fun hm => unfilled (mode ▸ hm)⟩
  · rwa [cause, mode]
  · rwa [releaseTimer, mode]
  · have hm : s.act.mode = .recovery := mode ▸ hm
    rw [bindings hm]
    exact unbound hm

theorem State.ModeFits.of_quietView (h : s.ModeFits) (view : t.quietView = s.quietView)
    (unfilled : s.act.mode = .recovery → t.Unfilled) : t.ModeFits :=
  h.stays (State.modeView_of_quietView view) (fun _ => State.bindings_of_quietView view) unfilled

/-- A record in a wash state is a bay's, and its tanker is bound to that bay (R12, R43). -/
theorem State.Washes.unwashed (washes : s.Washes) (table : s.YardTableLaw) (marker : s.ret.markerValid = true)
    (unbound : ∀ q : Fin 5, s.ret.bindings[q] = none) {r : RecordRef} {c : Compartment} (hc : s.ret.pool[r] = some c) :
    c.state.isWash = false := by
  by_contra hw
  obtain ⟨b, hb⟩ := washes.some_unit r c hc (by simpa using hw)
  obtain ⟨-, owner⟩ := washes.unit b r hb
  obtain ⟨i, -, owner⟩ := Option.bind_eq_some_iff.mp owner
  obtain ⟨x, hx, bound⟩ := Option.bind_eq_some_iff.mp owner
  obtain ⟨-, -, -, -, -, -, binds⟩ := table marker
  have := binds i x hx (.bay b) bound
  rw [unbound] at this
  cases this

theorem State.ModeFits.modeLaw (h : s.ModeFits) (washes : s.Washes) (table : s.YardTableLaw)
    (marker : s.ret.markerValid = true) : s.ModeLaw := by
  obtain ⟨recovery, timer, unbound, unfilled⟩ := h
  exact fun _ => ⟨recovery, timer, fun hm => ⟨unbound hm,
    fun r c hc => ⟨washes.unwashed table marker (unbound hm) hc, unfilled hm r c hc⟩⟩⟩

theorem State.ModeLaw.fits (h : s.ModeLaw) (hp : s.mainPower = true) : s.ModeFits := by
  obtain ⟨recovery, timer, shut⟩ := h hp
  exact ⟨recovery, timer, fun hm => (shut hm).1, fun hm r c hc => ((shut hm).2 r c hc).2⟩

/-! ## Lines and requests -/

/-- A line joining or leaving the BLOCK-GRANTS line set leaves the mode, the causes and the bindings. -/
theorem State.setBlockLine_modeView (s : State) (l : Line) (m : Bool) : (s.setBlockLine l m).modeView = s.modeView := by
  simp [State.modeView, State.setBlockLine, Arbiter.setBlockLine]

/-- The mode, what it sets and the bindings are those of a state with the same view. -/
theorem State.mode_of_loopView {u : State} (view : t.loopView = u.loopView) (mode : u.modeView = s.modeView)
    (bindings : u.ret.bindings = s.ret.bindings) : t.modeView = s.modeView ∧ t.ret.bindings = s.ret.bindings :=
  ⟨(State.modeView_of_quietView (State.quietView_of_loopView view)).trans mode,
    (State.bindings_of_quietView (State.quietView_of_loopView view)).trans bindings⟩

theorem State.sampleLine_mode (s : State) (l : Line) (level : Level) :
    (s.sampleLine l level).modeView = s.modeView ∧ (s.sampleLine l level).ret.bindings = s.ret.bindings := by
  have view := s.sampleLine_loopView l level
  simp only at view
  split_ifs at view
  · exact State.mode_of_loopView view (State.setBlockLine_modeView _ l true) rfl
  · exact State.mode_of_loopView view rfl rfl
  · exact State.mode_of_loopView view (State.setBlockLine_modeView _ l false) rfl
  · exact State.mode_of_loopView view rfl rfl

theorem State.reroute_mode (s : State) (l : Line) (e : Route) :
    (s.reroute l e).modeView = s.modeView ∧ (s.reroute l e).ret.bindings = s.ret.bindings := by
  obtain ⟨m, again, -, -, view⟩ := s.reroute_loopView l e
  have left : ((s.setRoute l e).setBlockLine l m).modeView = s.modeView := State.setBlockLine_modeView _ l m
  split_ifs at view
  · exact State.mode_of_loopView view ((State.setBlockLine_modeView _ l true).trans left) rfl
  · exact State.mode_of_loopView view left rfl

section

variable (p : Port) (body : List Byte)

theorem ownWriteRoute_mode :
    (ownWriteRoute p body s).1.modeView = s.modeView ∧ (ownWriteRoute p body s).1.ret.bindings = s.ret.bindings := by
  unfold ownWriteRoute
  split
  · split
    · split
      · exact ⟨rfl, rfl⟩
      · exact s.reroute_mode _ _
    · exact ⟨rfl, rfl⟩
  · exact ⟨rfl, rfl⟩

/-- OPEN-YARD leaves the mode OPEN, without the RECOVERY cause and with the release timer (R79, R125, R173). -/
theorem State.ModeFits.ownOpenYard (h : s.ModeFits) : (ownOpenYard p body s).1.ModeFits := by
  unfold Machine.ownOpenYard
  split
  · exact h
  · have view := State.modeView_of_quietView (State.quietView_of_loopView s.openMode.lapseAll_loopView)
    obtain ⟨mode, view⟩ := Prod.mk.inj view
    obtain ⟨timer, cause⟩ := Prod.mk.inj view
    have opened : s.openMode.lapseAll.act.mode = .opened := mode
    have ended : s.openMode.lapseAll.act.arbiter.recovery = false :=
      cause.trans (by simp [State.openMode, Arbiter.endRecovery])
    have runs : s.openMode.lapseAll.act.releaseTimer = true := timer
    refine ⟨?_, ?_, fun hm => ?_, fun hm => ?_⟩
    · simp [ended, opened]
    · simp [runs, opened]
    · rw [opened] at hm
      cases hm
    · rw [opened] at hm
      cases hm

/-- The owner of each kind keeps the law, as it is called: in RECOVERY for a kind taken there. -/
theorem State.ModeFits.owner (h : s.ModeFits) (shut : s.act.mode = .recovery → s.Shut) {k : Kind}
    (taken : s.act.mode = .recovery → k.takenShut = true) : (owner k p body s).1.ModeFits := by
  have unfilled (hm : s.act.mode = .recovery) := (shut hm).owner p body (taken hm)
  by_cases hk : k.besideTheLoop = true
  · exact h.of_quietView (State.quietView_of_loopView (owner_loopView p body hk)) unfilled
  have written (view : (Machine.owner k p body s).1.modeView = s.modeView
      ∧ (Machine.owner k p body s).1.ret.bindings = s.ret.bindings) := h.stays view.1 (fun _ => view.2) unfilled
  have docks (frame : (Machine.owner k p body s).1.act = s.act) (hs : k.takenShut = false) :=
    h.stays (by rw [State.modeView, frame]; rfl) (fun hm => by rw [taken hm] at hs; cases hs) unfilled
  cases k <;> try exact absurd rfl hk
  case startWash => exact h.of_quietView (ownStartWash_quietView p body) unfilled
  case phaseGo => exact h.of_quietView (ownPhaseGo_quietView p body) unfilled
  case abortWash => exact h.of_quietView (ownAbortWash_quietView p body) unfilled
  case cancelWash => exact h.of_quietView (ownCancelWash_quietView p body) unfilled
  case writeSetting => exact h.of_quietView (ownWriteSetting_quietView p body) unfilled
  case dock => exact docks (ownDock_frame p body).1 rfl
  case undock => exact docks (ownUndock_frame p body).1 rfl
  case writeRoute => exact written (ownWriteRoute_mode p body)
  case openYard => exact h.ownOpenYard p body

end

theorem State.Shut.of_ports (h : s.Shut) (same : s.SameButPorts t) : t.Shut :=
  h.of_same (by rw [same.ret]) (by rw [same.act]) (by rw [same.act]) (by rw [same.act])

theorem State.ModeFits.of_ports (h : s.ModeFits) (same : s.SameButPorts t) : t.ModeFits := by
  refine h.of_quietView (State.quietView_of_loopView same.loopView) fun hm => (h.unfilled hm).of_pool ?_
  rw [same.ret]

/-- A port's command keeps the law. -/
theorem State.ModeFits.throughPort (h : s.ModeFits) (shut : s.act.mode = .recovery → s.Shut)
    (through : s.ThroughPort t) : t.ModeFits := by
  cases through with
  | still same => exact h.of_ports same
  | served u p f before after =>
    have mode : u.act.mode = s.act.mode := by rw [before.act]
    refine State.ModeFits.of_ports ?_ after
    obtain same | ⟨k, check, same⟩ := serve_cases p f u <;> rw [same]
    · exact h.of_ports before
    · exact (h.of_ports before).owner p f.body (fun hm => (shut (mode ▸ hm)).of_ports before)
        fun hm => takenShut_of_commonCheck check hm

/-! ## Every step keeps the law -/

/-- A start leaves RECOVERY with nothing bound (R20, R170). -/
theorem State.ModeFits.start {changed : RefSet} (act : s.act = Active.start s.ret changed)
    (unbound : ∀ q : Fin 5, s.ret.bindings[q] = none) (unfilled : s.Unfilled) : s.ModeFits := by
  refine ⟨?_, ?_, fun _ => unbound, fun _ => unfilled⟩
  · rw [act]
    exact ⟨fun _ => rfl, fun _ => rfl⟩
  · rw [act]
    exact ⟨fun h => Bool.noConfusion h, fun h => YardMode.noConfusion h⟩

theorem State.ModeFits.recover (records : s.RecordLaw) (marker : s.ret.markerValid = true) : s.recover.ModeFits := by
  refine .start rfl (fun q => ?_) (.recover records marker)
  simp [State.recover, Retained.mapped]

theorem State.ModeFits.coldStart (s : State) : s.coldStart.ModeFits := by
  refine .start rfl (fun q => ?_) (.coldStart s)
  simp [State.coldStart, Retained.coldStart]

/-- The law, which speaks of a powered part alone (R168). -/
def State.ModeKept (s : State) : Prop := s.mainPower = true → s.ModeFits

theorem whenPowered_modeKept {f : State → State} (law : s.ModeKept) (hf : s.mainPower = true → (f s).ModeFits) :
    (whenPowered s f).ModeKept := by
  unfold whenPowered
  split
  next hp => exact fun _ => hf hp
  · exact law

/-- What a step rests on: the law, and in RECOVERY a shut yard. -/
structure State.ModeGround (s : State) : Prop where
  fits : s.ModeFits
  shut : s.act.mode = .recovery → s.Shut

/-- Every command completes and keeps the law, from a state that keeps what the law rests on. -/
theorem exec_modeKept (ground : s.mainPower = true → s.ModeGround) (ranges : s.RangeLaw) (records : s.RecordLaw)
    (i : Instr) : ∃ t, exec i s = .next t ∧ t.ModeKept := by
  have law : s.ModeKept := fun hp => (ground hp).fits
  have powered {f : State → State} (hf : s.ModeGround → (f s).ModeFits) : (whenPowered s f).ModeKept :=
    whenPowered_modeKept law fun hp => hf (ground hp)
  have quiet {f : State → State} (view : (f s).quietView = s.quietView) (unfilled : s.Shut → (f s).Unfilled) :
      (whenPowered s f).ModeKept := powered fun g => g.fits.of_quietView view fun hm => unfilled (g.shut hm)
  have pooled {f : State → State} (view : (f s).quietView = s.quietView)
      (pool : s.Shut → (f s).ret.pool = s.ret.pool) : (whenPowered s f).ModeKept :=
    quiet view fun h => h.unfilled.of_pool (pool h)
  have beside {f : State → State} (view : (f s).loopView = s.loopView)
      (pool : s.Shut → (f s).ret.pool = s.ret.pool) : (whenPowered s f).ModeKept :=
    pooled (State.quietView_of_loopView view) pool
  have expires (b : Bay) (runs : Bool) (stopped : WashUnit) (y : CState) (n : Note) :
      (whenPowered s fun s' => s'.expire b runs stopped y n).ModeKept :=
    pooled (s.expire_quietView b runs stopped y n) fun h => h.expire_pool b runs stopped y n
  have port {f : State → State} (h : s.ThroughPort (f s)) : (whenPowered s f).ModeKept :=
    powered fun g => g.fits.throughPort g.shut h
  cases h : i.request? with
  | some q =>
    rw [← requestOf_of_request h]
    exact ⟨_, exec_requestOf _ _ _ _ s, port (.frameCompletes _ s _)⟩
  | none =>
    cases i with
    | yardResetEffect =>
      refine ⟨_, rfl, whenPowered_modeKept law fun hp => ?_⟩
      split
      · exact law hp
      · exact .recover records (ranges.marker hp)
    | coldStart =>
      refine ⟨_, rfl, ?_⟩
      split
      · exact fun _ => .coldStart s
      · exact law
    | powerReturn =>
      refine ⟨_, rfl, ?_⟩
      split
      next returns => exact fun _ => .recover records returns.2
      · exact law
    | mainPowerLoss =>
      refine ⟨_, rfl, ?_⟩
      unfold State.losePower
      split
      · exact fun hp => by cases hp
      · exact law
    | backupSupplyLoss =>
      refine ⟨_, rfl, ?_⟩
      unfold State.loseBackup
      split
      · exact law
      next off => exact fun hp => absurd hp off
    | requestByteReceived p x err => exact ⟨_, rfl, port (.receiveByte p s x err)⟩
    | interByteTimeout p => exact ⟨_, rfl, port (.gap p s)⟩
    | answerSendComplete p => exact ⟨_, rfl, port (.answerSent p s)⟩
    | scanConversion ch code => exact ⟨_, rfl, pooled (s.convert_quietView ch code) fun h => h.convert_pool ch code⟩
    | pulseSample m level => exact ⟨_, rfl, beside (s.samplePulse_loopView m level) fun h => h.samplePulse_pool m level⟩
    | lineSample l level =>
      obtain ⟨view, bindings⟩ := s.sampleLine_mode l level
      exact ⟨_, rfl, powered fun g => g.fits.stays view (fun _ => bindings)
        fun hm => (g.fits.unfilled hm).of_pool (s.sampleLine_pool l level)⟩
    | grant => exact ⟨_, rfl, pooled s.grantStep_quietView fun h => h.grantStep_pool⟩
    | accountingIntervalClose b =>
      exact ⟨_, rfl, pooled (s.closeInterval_quietView b) fun h => by rw [h.closeInterval b]⟩
    | phaseTimerTick b => exact ⟨_, rfl, pooled (s.phaseTick_quietView b) fun h => by rw [h.phaseTick b]⟩
    | phaseTimerExpiry b => exact ⟨_, rfl, pooled (s.phaseExpiry_quietView b) fun h => by rw [h.phaseExpiry b]⟩
    | handoverTimerExpiry b => exact ⟨_, rfl, expires b _ { s.act.units[b] with handoverTimer := none } _ _⟩
    | reEntryTimerExpiry b => exact ⟨_, rfl, expires b _ { s.act.units[b] with reEntryTimer := none } _ _⟩
    | holdTimerExpiry b => exact ⟨_, rfl, expires b _ { s.act.units[b] with holdTimer := none } _ _⟩
    | washHold b => exact ⟨_, rfl, pooled (s.holdStep_quietView b) fun h => by rw [h.holdStep b]⟩
    | washResume b => exact ⟨_, rfl, pooled (s.resumeStep_quietView b) fun h => by rw [h.resumeStep b]⟩
    | fillStoppedMark => exact ⟨_, rfl, beside s.stoppedStep_loopView fun h => h.stoppedStep_pool⟩
    | sweepTick b =>
      refine ⟨_, rfl, beside (s.sweepStep_loopView b) fun _ => ?_⟩
      unfold State.sweepStep
      simp only
      split <;> rfl
    | releaseTimerCheck =>
      refine ⟨_, rfl, beside s.timerCheck_loopView fun _ => ?_⟩
      unfold State.timerCheck
      split <;> rfl
    | releaseLapse r =>
      exact ⟨_, rfl, quiet (State.quietView_of_loopView (s.lapseStep_loopView r)) fun h => h.unfilled.lapseStep r⟩
    | yardClockSecond =>
      refine ⟨_, rfl, fun hp => ?_⟩
      have on : s.mainPower = true := s.clockSecond_sameWashes.power ▸ hp
      refine (law on).of_quietView (State.quietView_of_loopView s.clockSecond_loopView)
        fun hm => ((law on).unfilled hm).of_pool ?_
      unfold State.clockSecond
      split <;> rfl
    | ageMillisecond => exact ⟨_, rfl, beside rfl fun _ => rfl⟩
    | _ => cases h

/-- Settles O60: every command keeps the law but for the wash states (`exec_modeKept`), and those follow where the laws
of the wash units and of the yard table hold, which every step keeps. -/
theorem stepKeepsModeLaw : Obligations.StepKeepsModeLaw := by
  intro s t sound hstep
  have kept : t.ModeKept := by
    unfold step at hstep
    split at hstep
    · cases hstep
      exact sound.mode.fits
    next i rest _ =>
      have ground (hp : s.mainPower = true) : ({ s with pending := rest } : State).ModeGround := by
        have fits := sound.mode.fits hp
        exact ⟨⟨fits.recovery, fits.timer, fits.unbound, fits.unfilled⟩,
          fun hm => (sound.shut hp hm).of_same rfl rfl rfl rfl⟩
      obtain ⟨u, hu, kept⟩ := exec_modeKept (s := { s with pending := rest }) ground sound.ranges sound.records i
      cases hu.symm.trans hstep
      exact kept
  intro hp
  have washes : t.Washes := t.washLaw_iff.mp (stepKeepsWashLaw s t sound hstep) hp
  have marker := State.RangeLaw.marker (stepKeepsRangeLaw s t sound.ranges hstep) hp
  exact (kept hp).modeLaw washes (stepKeepsYardTableLaw s t sound.table hstep) marker hp

end Sys2Proof.Machine
end

section
/-! # OPEN-YARD and YARD-RESET (R79, R125, R171, R173) -/

namespace Sys2Proof.Machine

variable {s : State}

/-- A set has as many members as its list of members. -/
theorem countOf_eq_length_membersOf {n : Nat} (v : Vector Bool n) : countOf v = (membersOf v).length := by
  have byPlace : v.toList = (List.finRange n).map (fun i => v[i]) :=
    List.ext_getElem (by simp) (fun _ _ _ => by simp)
  rw [countOf, byPlace, List.count, List.countP_map, membersOf, List.countP_eq_length_filter]
  refine congrArg List.length (List.filter_congr fun i _ => ?_)
  simp

/-- A record is overdue when it is RELEASED with a deadline reached (R124, R125). -/
theorem Compartment.overdue_eq (clock : Nat) (c : Compartment) :
    c.overdue clock = decide (c.state = .released ∧ ∃ x ∈ c.release, x.deadline ≤ clock) := by
  unfold Compartment.overdue Release.overdue
  rw [Bool.eq_iff_iff, decide_eq_true_iff]
  cases c.release <;> simp

/-- The overdue references, by their records. -/
theorem State.membersOf_overdueSet (s : State) :
    membersOf s.overdueSet = (List.finRange 64).filter (fun r => match s.ret.pool[r] with
      | none => false
      | some c => decide (c.state = .released ∧ ∃ x ∈ c.release, x.deadline ≤ s.ret.clock)) := by
  unfold membersOf
  refine List.filter_congr fun r _ => ?_
  rw [State.overdueSet, mapTable_eq_map, Fin.getElem_fin, Vector.getElem_map]
  cases s.ret.pool[r.val] with
  | none => rfl
  | some c => exact Compartment.overdue_eq _ c

/-- Lapses of distinct RELEASED compartments, one after another, lapse each as it stood before the first (R126). -/
theorem State.foldl_lapse {rs : List RecordRef} (once : rs.Nodup)
    (released : ∀ r ∈ rs, ∃ c, s.ret.pool[r] = some c ∧ c.state = .released) {t : State}
    (same : ∀ r ∈ rs, t.ret.pool[r] = s.ret.pool[r]) :
    rs.foldl State.lapse t = rs.foldl (fun t r => match s.ret.pool[r] with
      | none => t
      | some c => t.changeRecord r c.lapsed) t := by
  induction rs generalizing t with
  | nil => rfl
  | cons r rs ih =>
    obtain ⟨c, hc, hq⟩ := released r List.mem_cons_self
    have stands : t.record r = some c := (same r List.mem_cons_self).trans hc
    have lapsed : t.lapse r = t.changeRecord r c.lapsed := by
      simp [State.lapse, State.transition, stands, hq]
    obtain ⟨fresh, once⟩ := List.nodup_cons.mp once
    rw [List.foldl_cons, List.foldl_cons, hc, lapsed]
    refine ih once (fun k hk => released k (List.mem_cons_of_mem r hk)) fun k hk => ?_
    have other : k ≠ r := fun e => fresh (e ▸ hk)
    rw [State.changeRecord_pool, table_set, if_neg other]
    exact same k (List.mem_cons_of_mem r hk)

/-- Settles O57: the owner's two arms by the mode, and the first check as a fold over the overdue records
(`State.foldl_lapse`). -/
theorem openYardAndYardReset : Obligations.OpenYardAndYardReset := by
  intro tag s ready
  have opened {t : State} {r : Reply} (ho : ownOpenYard .office [] s = (t, r)) :
      exec (.openYard .office tag []) s = .next (t.replies .office .openYard tag r.code r.body) :=
    exec_office (k := .openYard) ready rfl rfl tag rfl (by simp) ho
  refine ⟨fun hm => opened (r := refuse .state) (by rw [ownOpenYard, hm]), fun hm => ?_,
    exec_office (k := .yardReset) ready rfl rfl tag rfl (by simp) (r := okay []) rfl⟩
  intro overdue
  have members : membersOf s.overdueSet = overdue := s.membersOf_overdueSet
  have released (r : RecordRef) (hr : r ∈ overdue) : ∃ c, s.ret.pool[r] = some c ∧ c.state = .released := by
    have hr := (List.mem_filter.mp hr).2
    cases hc : s.ret.pool[r] with
    | none => simp [hc] at hr
    | some c => exact ⟨c, rfl, by simp_all⟩
  have checked : s.openMode.lapseAll = overdue.foldl (fun (t : State) r => match s.ret.pool[r] with
      | none => t
      | some c => t.changeRecord r { c with state := .dirty, note := some .lapsed, release := none, summary := none })
      s.openMode := by
    rw [State.lapseAll, show s.openMode.overdueSet = s.overdueSet from rfl, members]
    exact State.foldl_lapse ((List.nodup_finRange 64).filter _) released fun _ _ => rfl
  refine opened (r := okay (byte1 overdue.length)) ?_
  simp only [ownOpenYard, hm, countOf_eq_length_membersOf, members, checked]
  rfl

end Sys2Proof.Machine
end

section
/-! # WRITE-SETTING (R75, R114, R174, R175) -/

namespace Sys2Proof.Machine

variable {s : State}

/-- A setting is named by its number, 1 to 25. -/
theorem settingOf_number (i : Fin 25) : settingOf (i.val + 1) = some i := by
  simp [settingOf, show i.val + 1 ≤ 25 from i.isLt]

theorem settingOf_eq_none {n : Nat} (h : n = 0 ∨ 25 < n) : settingOf n = none :=
  dif_neg (by omega)

/-- The value stored for a pulse filter's setting is the least of 1, 2, 4 and 8 not below the value sent, or 8
(R175). -/
theorem clampSetting_filter {i : Fin 25} (low : 12 ≤ i.val) (high : i.val ≤ 16) {n v : Nat} (figure : OneTwoFourEight v)
    (above : n ≤ v ∨ v = 8) (least : ∀ u, OneTwoFourEight u → n ≤ u → v ≤ u) : clampSetting i n = v := by
  have filter : isFilterSetting i = true := by simp [isFilterSetting, low, high]
  have one := least 1 (.inl rfl)
  have two := least 2 (.inr (.inl rfl))
  have four := least 4 (.inr (.inr (.inl rfl)))
  have eight := least 8 (.inr (.inr (.inr rfl)))
  unfold OneTwoFourEight at figure
  rw [clampSetting, if_pos filter]
  split_ifs <;> omega

/-- The value stored for any other setting is the value sent, held in the setting's range (R175). -/
theorem clampSetting_range {i : Fin 25} (other : i.val < 12 ∨ 16 < i.val) {n v : Nat}
    (below : n < settingLow i → v = settingLow i) (above : settingHigh i < n → v = settingHigh i)
    (within : settingLow i ≤ n → n ≤ settingHigh i → v = n) : clampSetting i n = v := by
  have filter : ¬ isFilterSetting i = true := by simp [isFilterSetting]; omega
  have range := (setting_ranges i).1
  rw [clampSetting, if_neg filter]
  omega

/-- Park values are settings 22 to 25 (R174). -/
theorem parkBayOf_eq_some {i : Fin 25} {b : Bay} : parkBayOf i = some b ↔ i.val = 21 + b.val := by
  unfold parkBayOf
  split
  · simp only [Option.some.injEq, Fin.ext_iff]
    omega
  · simp only [reduceCtorEq, false_iff]
    omega

/-- What a setting does on its owner in the write's step (R75, R114). -/
theorem State.settingEffect_eq (s : State) (i : Fin 25) (v : Nat) : s.settingEffect i v = { s with act := { s.act with
    arbiter := if i = 0 then Arbiter.decided { s.act.arbiter with capacity := v } s.act.arbiter else s.act.arbiter
    outputs := Vector.ofFn (fun b : Bay =>
      let o := s.act.outputs[b]
      if i.val = 21 + b.val ∧ o.generator = none then { o with sweep := v } else o) } } := by
  have outputs {w : Vector BayOutputs 4} (h : ∀ b : Bay, w[b] =
      if i.val = 21 + b.val ∧ (s.act.outputs[b]).generator = none then { s.act.outputs[b] with sweep := v } else s.act.outputs[b]) := (table_ofFn _ w h).symm
  have still (h : ∀ b : Bay, ¬ (i.val = 21 + b.val ∧ (s.act.outputs[b]).generator = none)) :=
    outputs (w := s.act.outputs) fun b => (if_neg (h b)).symm
  unfold State.settingEffect
  split
  next hi =>
    rw [if_pos (show i = 0 from Fin.ext hi), still fun b hb => by omega]
    rfl
  next hi =>
    rw [if_neg fun e => hi (congrArg Fin.val e)]
    split
    next park =>
      rw [still fun b hb => by rw [parkBayOf_eq_some.mpr hb.1] at park; cases park]
    next b park =>
      have place (b' : Bay) : i.val = 21 + b'.val ↔ b' = b := by
        rw [parkBayOf_eq_some.mp park, Fin.ext_iff]
        omega
      simp only
      split
      next stopped =>
        rw [outputs (w := s.act.outputs.set b { s.act.outputs[b] with sweep := v }) fun b' => ?_]
        · rfl
        · rw [table_set]
          by_cases hb : b' = b
          · subst hb
            rw [if_pos rfl, if_pos ⟨(place b').mpr rfl, Option.isNone_iff_eq_none.mp stopped⟩]
          · rw [if_neg hb, if_neg fun h => hb ((place b').mp h.1)]
      next runs =>
        rw [still fun b' hb => runs ?_]
        rw [← (place b').mp hb.1]
        exact Option.isNone_iff_eq_none.mpr hb.2

/-- Settles O56: the value stored by its setting's range, and the effect as a whole next state
(`State.settingEffect_eq`). -/
theorem writeSettingStoresAndActs : Obligations.WriteSettingStoresAndActs := by
  intro tag n v1 v2 s ready
  have answered {t : State} {r : Reply} (ho : ownWriteSetting .office [n, v1, v2] s = (t, r)) :
      exec (.writeSetting .office tag [n, v1, v2]) s = .next (t.replies .office .writeSetting tag r.code r.body) :=
    exec_office (k := .writeSetting) ready rfl rfl tag rfl (by simp) ho
  refine ⟨fun hn => answered (r := refuse .range) (by simp only [ownWriteSetting, settingOf_eq_none hn]), ?_⟩
  intro i v hn filter range
  have stored : clampSetting i (number [v1, v2]) = v := by
    by_cases hi : 12 ≤ i.val ∧ i.val ≤ 16
    · obtain ⟨figure, above, least⟩ := filter hi.1 hi.2
      exact clampSetting_filter hi.1 hi.2 figure above least
    · have other : i.val < 12 ∨ 16 < i.val := by omega
      obtain ⟨below, above, within⟩ := range other
      exact clampSetting_range other below above within
  refine answered (r := okay (byte2 v)) ?_
  simp only [ownWriteSetting, hn, settingOf_number, stored, State.settingEffect_eq]
  rfl

end Sys2Proof.Machine
end

section
/-! # Conversions of the temperature and pressure channels (R77, R88, R101 to R104) -/

namespace Sys2Proof.Machine

variable {s : State}

/-- The value of a code of the supply temperature's or the pressure's channel; 0 and 1023 are faulty (R102). -/
theorem codeValue_of_end {ch : Probe} (hch : ch = 0 ∨ ch = 5) (code : Code) :
    codeValue ch code = if code.val ≠ 0 ∧ code.val ≠ 1023 then
      some (if ch = 0 then (code.val - 1) * 200 / 1021 else code.val - 1) else none := by
  unfold codeValue
  by_cases bad : code.val = 0 ∨ code.val = 1023
  · rw [if_pos bad, if_neg (by omega)]
  · rw [if_neg bad, if_pos (show code.val ≠ 0 ∧ code.val ≠ 1023 by omega)]
    obtain rfl | rfl := hch <;> rfl

/-- A slot after a conversion (R103). -/
theorem SampleSlot.converted_eq (x : SampleSlot) (ch : Probe) (code : Code) : x.converted ch code
    = match codeValue ch code with
      | some v => ⟨some code, false, some v, 0⟩
      | none => ⟨some code, true, x.lastGood, x.age⟩ := rfl

/-- The round moved on with a slot updated (R101, R103). -/
def State.slotConverted (s : State) (ch next : Probe) (x : SampleSlot) : State :=
  { s with act := { s.act with scanNext := next, slots := s.act.slots.set ch x } }

/-- A conversion of channel 0 is delivered to every wash unit (R88, R104). -/
theorem State.convert_supply (next : s.act.scanNext = 0) (code : Code) : s.convert 0 code
    = (s.slotConverted 0 1 ((s.act.slots[(0 : Probe)]).converted 0 code)).supplySample (codeValue 0 code) := by
  rw [State.convert, if_pos next]
  rfl

/-- A conversion of channel 5 is delivered to the arbiter (R77, R104). -/
theorem State.convert_pressure (next : s.act.scanNext = 5) (code : Code) : s.convert 5 code
    = (s.slotConverted 5 0 ((s.act.slots[(5 : Probe)]).converted 5 code)).setArbiter
      (s.act.arbiter.pressureSample s.ret.pressureMinimum (codeValue 5 code)) := by
  rw [State.convert, if_pos next]
  rfl

/-- The arbiter after a pressure sample, by the LOW-PRESSURE cause it leaves (R77). -/
theorem Arbiter.pressureSample_eq {a : Arbiter} {minimum : Nat} {sample : Option Nat} {low : Bool}
    (h : lowPressureAfter a.lowPressure minimum sample = low) :
    a.pressureSample minimum sample = Arbiter.decided { a with lowPressure := low } a := by
  rw [← h]
  rfl

/-- A millisecond of ages, by the slots and the units (R88, R101). -/
theorem State.ageStep_eq (s : State) : s.ageStep = { s with act := { s.act with
    slots := s.act.slots.map (fun x => { x with age := min (x.age + 1) 65535 })
    units := s.act.units.map (fun u =>
      { u with supply := u.supply.map (fun x => { x with age := min (x.age + 1) 65535 }) }) } } := by
  rw [State.ageStep, mapTable_eq_map, mapTable_eq_map]
  rfl

/-- Settles O40: the channel's delivery (`State.convert_supply`, `State.convert_pressure`) by the value of the code. -/
theorem conversionDelivered : Obligations.ConversionDelivered := by
  intro ch code s power
  refine ⟨fun other => ?_, fun next => ?_, by rw [exec_ageMillisecond power, State.ageStep_eq]⟩
  · rw [exec_scanConversion power, State.convert, if_neg other]
  intro good slot value taken
  have valued (hch : ch = 0 ∨ ch = 5) :
      (good → codeValue ch code = some value) ∧ (¬ good → codeValue ch code = none) := by
    rw [codeValue_of_end hch]
    exact ⟨fun hg => if_pos hg, fun hg => if_neg hg⟩
  have supply (hch : ch = 0) {units : Vector WashUnit 4}
      (hg : (good ∧ units = s.act.units.map (fun u => { u with supply := some ⟨value, 0⟩ }))
        ∨ (¬ good ∧ units = s.act.units)) : taken units s.act.arbiter.lowPressure := by
    have unchanged : Arbiter.decided { s.act.arbiter with lowPressure := s.act.arbiter.lowPressure } s.act.arbiter
        = s.act.arbiter := Arbiter.decided_self _
    obtain ⟨known, unknown⟩ := valued (.inl hch)
    change exec (.scanConversion ch code) s = _
    rw [exec_scanConversion power, unchanged]
    subst hch
    rw [State.convert_supply next, SampleSlot.converted_eq]
    obtain ⟨hg, rfl⟩ | ⟨hg, rfl⟩ := hg
    · rw [known hg, if_pos hg, ← mapTable_eq_map]
      rfl
    · rw [unknown hg, if_neg hg]
      rfl
  have pressure (hch : ch = 5) {sample : Option Nat} (hs : codeValue ch code = sample) {low : Bool}
      (hl : lowPressureAfter s.act.arbiter.lowPressure s.ret.pressureMinimum sample = low) : taken s.act.units low := by
    have slotted : slot.converted ch code
        = if good then ⟨some code, false, some value, 0⟩ else ⟨some code, true, slot.lastGood, slot.age⟩ := by
      obtain ⟨known, unknown⟩ := valued (.inr hch)
      rw [SampleSlot.converted_eq]
      by_cases hg : good
      · rw [known hg, if_pos hg]
      · rw [unknown hg, if_neg hg]
    change exec (.scanConversion ch code) s = _
    rw [exec_scanConversion power, ← slotted]
    subst hch
    rw [State.convert_pressure next, hs, Arbiter.pressureSample_eq hl]
    rfl
  refine ⟨fun hch hg => supply hch (.inl ⟨hg, rfl⟩), fun hch hg => supply hch (.inr ⟨hg, rfl⟩),
    fun hch hg low => pressure hch ((valued (.inr hch)).1 hg) (if_pos low), fun hch hg high => ?_,
    fun hch hg above within => ?_, fun hch hg => pressure hch ((valued (.inr hch)).2 hg) rfl⟩
  · exact pressure hch ((valued (.inr hch)).1 hg) ((if_neg (by omega)).trans (if_pos high))
  · exact pressure hch ((valued (.inr hch)).1 hg) ((if_neg (by omega)).trans (if_neg (by omega)))

end Sys2Proof.Machine
end

section
/-! # A line that acts under its route entry (R149) -/

namespace Sys2Proof.Machine

variable {s : State}

/-! ## Notices edited port by port -/

section

variable (edits : Fin 6 → Prop) [DecidablePred edits] (g : Notice → Notice)

/-- One port's notices edited, where the port is to be. -/
def editNotice (v : Vector Notice 6) (p : Port) : Vector Notice 6 :=
  if edits p.index then v.set p.index (g v[p.index]) else v

theorem editNotice_get (v : Vector Notice 6) (p : Port) (j : Fin 6) :
    (editNotice edits g v p)[j] = if j = p.index ∧ edits j then g v[j] else v[j] := by
  unfold editNotice
  by_cases hj : j = p.index
  · subst hj
    split <;> simp_all
  · have other : (v.set p.index (g v[p.index]))[j] = v[j] := by rw [table_set, if_neg hj]
    simp only [hj, false_and, if_false]
    split
    · exact other
    · rfl

theorem foldl_editNotice_get {ps : List Port} (once : (ps.map Port.index).Nodup) (v : Vector Notice 6) (j : Fin 6) :
    (ps.foldl (editNotice edits g) v)[j] = if j ∈ ps.map Port.index ∧ edits j then g v[j] else v[j] := by
  induction ps generalizing v with
  | nil => simp
  | cons p ps ih =>
    rw [List.map_cons] at once
    obtain ⟨fresh, once⟩ := List.nodup_cons.mp once
    rw [List.foldl_cons, ih once, editNotice_get]
    by_cases hj : j = p.index
    · subst hj
      simp [fresh]
    · simp [hj]

/-- Every port's notices edited, one port after another. -/
theorem State.foldl_editNotice {f : State → Port → State}
    (hf : ∀ (s : State) p, f s p = { s with act := { s.act with notices := editNotice edits g s.act.notices p } })
    (s : State) : allPorts.foldl f s = { s with act := { s.act with
      notices := Vector.ofFn (fun j : Fin 6 => if edits j then g s.act.notices[j] else s.act.notices[j]) } } := by
  have folded (ps : List Port) (s : State) :
      ps.foldl f s = { s with act := { s.act with notices := ps.foldl (editNotice edits g) s.act.notices } } := by
    induction ps generalizing s with
    | nil => rfl
    | cons p ps ih => rw [List.foldl_cons, hf, ih]; rfl
  have everyPort : ∀ j : Fin 6, j ∈ allPorts.map Port.index := by decide
  rw [folded, table_ofFn _ (allPorts.foldl (editNotice edits g) s.act.notices) fun j => ?_]
  rw [foldl_editNotice_get edits g (by decide)]
  simp only [everyPort j, true_and]

end

/-- A line joins the pending-line sets of the ports of a notify set (R149, R158). -/
theorem State.lineNotices_eq (s : State) (l : Line) (ports : PortSet) : s.lineNotices l ports
    = { s with act := { s.act with notices := Vector.ofFn (fun j : Fin 6 =>
        let n := s.act.notices[j]
        if ports[j] = true then Notice.settled (n.pendingLines.set l true) n.changed else n) } } := by
  refine State.foldl_editNotice (fun j => ports[j] = true)
    (fun n => Notice.settled (n.pendingLines.set l true) n.changed) (fun t p => ?_) s
  unfold editNotice
  split <;> rfl

/-- A line leaves the pending-line sets of the ports no longer notified (R155, R158). -/
theorem State.trimPending_eq (s : State) (l : Line) (old new : PortSet) : s.trimPending l old new
    = { s with act := { s.act with notices := Vector.ofFn (fun j : Fin 6 =>
        let n := s.act.notices[j]
        if old[j] = true ∧ new[j] = false then Notice.settled (n.pendingLines.set l false) n.changed else n) } } := by
  refine State.foldl_editNotice (fun j => old[j] = true ∧ new[j] = false)
    (fun n => Notice.settled (n.pendingLines.set l false) n.changed) (fun t p => ?_) s
  simp only [editNotice, Bool.and_eq_true, Bool.not_eq_true']
  split <;> rfl

/-! ## Actions -/

/-- A line that joins the BLOCK-GRANTS line set sets the cause, so no decision follows (R71, R78). -/
theorem Arbiter.setBlockLine_true (a : Arbiter) (l : Line) :
    a.setBlockLine l true = { a with blockLines := a.blockLines.set l true } := by
  have blocked : ({ a with blockLines := a.blockLines.set l true } : Arbiter).blocked = true :=
    (Arbiter.blocked_iff _).mpr (.inr (.inl ⟨l, by simp⟩))
  have nothing : ({ a with blockLines := a.blockLines.set l true } : Arbiter).pick = none := by
    rw [Arbiter.pick, if_pos blocked]
  unfold Arbiter.setBlockLine Arbiter.decided
  split
  next idle =>
    rw [nothing, Option.map_none]
    congr 1
    exact idle.1.symm
  · rfl

/-- A position's hold set with a line in it. -/
def State.holdLine (s : State) (q : Fin 5) (l : Line) : HoldSet :=
  { s.act.holds[q] with lines := (s.act.holds[q]).lines.set l true }

theorem State.joinHold_bay (s : State) (b : Bay) (l : Line) : s.joinHold (.bay b) l
    = { s with act := { s.act with
        holds := s.act.holds.set (Position.bay b).index (s.holdLine (Position.bay b).index l) } } := by
  simp [State.joinHold]
  rfl

/-- The STOPPED update of an active rack fill unit (R137). -/
theorem State.rackHeld_eq (s : State) : s.rackHeld = s.setFillUnit (if s.act.fillUnit.active ≠ none then
    { s.act.fillUnit with stopDue := true } else s.act.fillUnit) := by
  unfold State.rackHeld
  cases ha : s.act.fillUnit.active with
  | none => rfl
  | some r => rfl

theorem State.joinHold_rack (s : State) (l : Line) : s.joinHold .rack l = { s with act := { s.act with
    holds := s.act.holds.set 4 (s.holdLine 4 l)
    fillUnit := if (s.hold .rack).nonEmpty = false ∧ s.act.fillUnit.active ≠ none then
      { s.act.fillUnit with stopDue := true } else s.act.fillUnit } } := by
  unfold State.joinHold
  by_cases hh : (s.hold .rack).nonEmpty = false
  · simp only [hh, and_self, if_true, true_and, State.rackHeld_eq]
    rfl
  · simp [hh]
    rfl

/-- An action puts its line in a position's hold set (R149). -/
abbrev Action.Holds (a : Action) (q : Fin 5) : Prop :=
  a = .holdAll ∧ q.val < 4 ∨ a = .stopRack ∧ q.val = 4 ∨ ∃ b : Bay, a = .holdBay b ∧ q.val = b.val

/-- The hold sets after a line joins those its action names. -/
def State.holdsUnder (s : State) (a : Action) (l : Line) : Vector HoldSet 5 :=
  Vector.ofFn (fun q : Fin 5 => if a.Holds q then s.holdLine q l else s.act.holds[q])

theorem State.holdsUnder_of_none {a : Action} (h : ∀ q, ¬ a.Holds q) (s : State) (l : Line) :
    s.holdsUnder a l = s.act.holds :=
  (table_ofFn _ _ fun q => (if_neg (h q)).symm).symm

theorem State.holdsUnder_of_one {a : Action} {p : Fin 5} (h : ∀ q, a.Holds q ↔ q = p) (s : State) (l : Line) :
    s.holdsUnder a l = s.act.holds.set p (s.holdLine p l) := by
  refine (table_ofFn _ _ fun q => ?_).symm
  rw [table_set]
  by_cases hq : q = p
  · subst hq
    rw [if_pos rfl, if_pos ((h q).mpr rfl)]
  · rw [if_neg hq, if_neg (mt (h q).mp hq)]

/-- HOLD-ALL puts the line in each bay's hold set (R149). -/
theorem State.holdsUnder_holdAll (s : State) (l : Line) : s.lineAction l .holdAll
    = { s with act := { s.act with holds := s.holdsUnder .holdAll l } } := by
  have placed : (s.lineAction l .holdAll).act.holds = s.holdsUnder .holdAll l := by
    refine table_ofFn _ _ fun q => ?_
    fin_cases q <;> simp [State.lineAction, State.joinHold_bay, Position.index, State.holdLine]
  rw [← placed]
  simp only [State.lineAction, State.joinHold_bay]

/-- What the action of a line become active writes (R149). -/
theorem State.lineAction_eq (s : State) (l : Line) (a : Action) : s.lineAction l a = { s with act := { s.act with
    holds := s.holdsUnder a l
    fillUnit :=
      if a = .stopRack ∧ (s.hold .rack).nonEmpty = false ∧ s.act.fillUnit.active ≠ none then
        { s.act.fillUnit with stopDue := true } else s.act.fillUnit
    arbiter :=
      if a = .blockGrants then
        { s.act.arbiter with blockLines := s.act.arbiter.blockLines.set l true } else s.act.arbiter } } := by
  cases a with
  | note =>
    rw [State.holdsUnder_of_none (by simp)]
    rfl
  | holdBay b =>
    have place (q : Fin 5) : q = (Position.bay b).index ↔ q.val = b.val := Fin.ext_iff
    rw [State.holdsUnder_of_one (p := (Position.bay b).index) fun q => by simp [Action.Holds, place]]
    exact s.joinHold_bay b l
  | holdAll => exact s.holdsUnder_holdAll l
  | stopRack =>
    rw [State.holdsUnder_of_one (p := 4) (by simp [Action.Holds, Fin.ext_iff])]
    simp only [true_and]
    exact s.joinHold_rack l
  | blockGrants =>
    rw [State.holdsUnder_of_none (by simp), State.lineAction, State.setBlockLine, Arbiter.setBlockLine_true]
    rfl

/-- An unmasked line become active does what its route entry says (R149). -/
theorem State.lineBecomesActive_eq (s : State) (l : Line) {e : Route} (he : e.masked = false) :
    s.lineBecomesActive l e = s.lineActs l e := by
  rw [State.lineBecomesActive, if_neg (by simp [he]), State.lineAction_eq, State.lineNotices_eq]
  rfl

/-! ## A sample of a field line (R147, R150) -/

/-- Settles O51: the filter's three cases, and what an accepted level does (`State.lineBecomesActive_eq`). -/
theorem lineSampleFilteredAndActs : Obligations.LineSampleFilteredAndActs := by
  intro l level s power e f kept
  have sampled {g : Filter} {changed : Bool} (hf : f.sample e.filterN level = (g, changed)) :
      exec (.lineSample l level) s = .next (if changed = true then
        if level = e.polarity.activeLevel then (s.setLine l g).lineBecomesActive l e
        else (s.setLine l g).lineBecomesInactive l
      else s.setLine l g) := by
    rw [exec_lineSample power, State.sampleLine]
    simp only [show (s.act.lines[l]).sample (s.ret.routes[l]).filterN level = (g, changed) from hf]
    rfl
  refine ⟨fun same => ?_, fun new few => ?_, fun new enough => ?_⟩
  · exact sampled (changed := false) (if_pos same)
  · exact sampled (changed := false) ((if_neg new).trans (if_neg (by omega)))
  intro active
  have accepted := sampled (g := ⟨level, 0⟩) (changed := true) ((if_neg new).trans (if_pos enough))
  rw [if_pos rfl, Polarity.activeLevel_eq] at accepted
  refine ⟨fun ha masked => ?_, fun ha unmasked => ?_, fun ha => ?_⟩
  · rw [accepted, if_pos ha, State.lineBecomesActive, if_pos masked]
    rfl
  · rw [accepted, if_pos ha, State.lineBecomesActive_eq _ l unmasked]
    rfl
  · rw [accepted, if_neg ha]
    rfl

end Sys2Proof.Machine
end

section
/-! # WRITE-ROUTE (R78, R154, R155) -/

namespace Sys2Proof.Machine

variable {s : State}

/-! ## Reading a route entry -/

theorem lineOf_val (l : Line) : lineOf l.val = some l := dif_pos (by omega)

theorem lineOf_eq_none {n : Nat} (h : 15 < n) : lineOf n = none := dif_neg (by omega)

theorem bayOf_number (b : Bay) : bayOf (b.val + 1) = some b := by
  simp [bayOf, show b.val + 1 ≤ 4 from b.isLt]

/-- The action of its code, with its bay's number for HOLD-BAY (R154). -/
theorem actionOf_code (a : Action) {bay : Nat} (hb : ∀ b : Bay, a = .holdBay b → bay = b.val + 1) :
    actionOf a.code bay = some a := by
  cases a with
  | holdBay b => simp [actionOf, Action.code, hb b rfl, bayOf_number]
  | note | holdAll | stopRack | blockGrants => rfl

/-- No action has a code above 4, and HOLD-BAY names one of the bays 1 to 4 (R154). -/
theorem actionOf_eq_none {code bay : Nat} (h : 4 < code ∨ (code = 1 ∧ (bay = 0 ∨ 4 < bay))) :
    actionOf code bay = none := by
  rcases h with h | ⟨rfl, h⟩
  · obtain ⟨n, rfl⟩ := Nat.exists_eq_add_of_le' h
    rfl
  · have : bayOf bay = none := dif_neg (by omega)
    simp [actionOf, this]

/-- The notify set of its byte (R154). -/
theorem notifyOf_eq_some {b : Byte} (h : b.toNat < 64) {ports : PortSet}
    (hp : ∀ j : Fin 6, ports[j] = b.getLsbD j.val) : notifyOf b = some ports := by
  rw [notifyOf, if_pos h, Option.some.injEq]
  refine table_ext fun j => ?_
  rw [hp]
  fin_cases j <;> rfl

theorem notifyOf_eq_none {b : Byte} (h : 63 < b.toNat) : notifyOf b = none := if_neg (by omega)

section

variable {mask polarity trigger action bay notify filterN : Byte}

/-- A byte out of its range is no route entry's (R154). -/
theorem routeOf_eq_none (h : 1 < mask.toNat ∨ 1 < polarity.toNat ∨ 1 < trigger.toNat ∨ 4 < action.toNat
    ∨ (action.toNat = 1 ∧ (bay.toNat = 0 ∨ 4 < bay.toNat)) ∨ 63 < notify.toNat ∨ ¬ OneTwoFourEight filterN.toNat) :
    routeOf mask polarity trigger action bay notify filterN = none := by
  unfold routeOf
  split
  next fits =>
    obtain ⟨hmask, hpolarity, htrigger, figure⟩ := fits
    have figure := (isOneTwoFourEight_iff _).mp figure
    have unread : actionOf action.toNat bay.toNat = none ∨ notifyOf notify = none := by
      rcases h with h | h | h | h | h | h | h
      · omega
      · omega
      · omega
      · exact .inl (actionOf_eq_none (.inl h))
      · exact .inl (actionOf_eq_none (.inr h))
      · exact .inr (notifyOf_eq_none h)
      · exact absurd figure h
    rcases unread with h | h <;> rw [h]
    cases actionOf action.toNat bay.toNat <;> rfl
  · rfl

/-- The route entry of its bytes (R148, R154). -/
theorem routeOf_eq_some {e : Route} (hmask : mask.toNat = (if e.masked = true then 1 else 0))
    (hpolarity : polarity.toNat = (if e.polarity = .activeLow then 0 else 1))
    (htrigger : trigger.toNat = (if e.trigger = .edge then 0 else 1)) (haction : action.toNat = e.action.code)
    (hbay : ∀ b : Bay, e.action = .holdBay b → bay.toNat = b.val + 1) (hnotify : notify.toNat < 64)
    (hports : ∀ j : Fin 6, e.notify[j] = notify.getLsbD j.val) (hfilter : filterN.toNat = e.filterN)
    (figure : OneTwoFourEight e.filterN) : routeOf mask polarity trigger action bay notify filterN = some e := by
  obtain ⟨masked, pol, trig, a, ports, n⟩ := e
  have fits : mask.toNat ≤ 1 ∧ polarity.toNat ≤ 1 ∧ trigger.toNat ≤ 1 ∧ isOneTwoFourEight filterN.toNat = true := by
    rw [hmask, hpolarity, htrigger, hfilter, isOneTwoFourEight_iff]
    refine ⟨?_, ?_, ?_, figure⟩ <;> split <;> omega
  rw [routeOf, if_pos fits, haction, actionOf_code a hbay, notifyOf_eq_some hnotify hports, hmask, hpolarity,
    htrigger, hfilter]
  cases masked <;> cases pol <;> cases trig <;> rfl

end

/-! ## The entry stored -/

/-- A line acts under an entry: unmasked, with its accepted level the active one (R149, R155). -/
theorem acting_iff (l : Line) (e : Route) (he : s.ret.routes[l] = e) : (s.lineActive l && !e.masked) = true
    ↔ e.masked = false ∧ (s.act.lines[l]).accepted = if e.polarity = .activeLow then Level.low else Level.high := by
  subst he
  rw [Bool.and_eq_true, State.lineActive_iff, Bool.not_eq_true', and_comm]

/-- An entry stored: the ports no longer notified lose the line, and the BLOCK-GRANTS line set follows (R78, R155). -/
def State.routeStored (s : State) (l : Line) (e : Route) (blocks : Bool) : State :=
  { s with
    ret := { s.ret with routes := s.ret.routes.set l e }
    act := { s.act with
      notices := Vector.ofFn (fun j : Fin 6 =>
        let x := s.act.notices[j]
        if (s.ret.routes[l]).notify[j] = true ∧ e.notify[j] = false then
          Notice.settled (x.pendingLines.set l false) x.changed else x)
      arbiter := Arbiter.decided { s.act.arbiter with blockLines := s.act.arbiter.blockLines.set l blocks }
        s.act.arbiter } }

/-- WRITE-ROUTE's change: the entry stored, and a line that now acts and did not before acts (R155). -/
theorem State.reroute_eq (s : State) (l : Line) (e : Route) {acts acted : Prop} [Decidable acts] [Decidable acted]
    (hacts : acts ↔ e.masked = false
      ∧ (s.act.lines[l]).accepted = if e.polarity = .activeLow then Level.low else Level.high)
    (hacted : acted ↔ (s.ret.routes[l]).masked = false
      ∧ (s.act.lines[l]).accepted = if (s.ret.routes[l]).polarity = .activeLow then Level.low else Level.high) :
    s.reroute l e = if acts ∧ ¬ acted then
        (s.routeStored l e (decide (acts ∧ e.action = .blockGrants))).lineActs l e
      else s.routeStored l e (decide (acts ∧ e.action = .blockGrants)) := by
  have was : (s.lineActive l && !(s.ret.routes[l]).masked) = decide acted := by
    rw [Bool.eq_iff_iff, acting_iff l _ rfl, decide_eq_true_iff, hacted]
  have is : (((s.setRoute l e).trimPending l (s.ret.routes[l]).notify e.notify).lineActive l && !e.masked)
      = decide acts := by
    rw [Bool.eq_iff_iff, State.trimPending_eq, acting_iff l e (by simp), decide_eq_true_iff, hacts]
    rfl
  have stored (blocks : Bool) : ((s.setRoute l e).trimPending l (s.ret.routes[l]).notify e.notify).setBlockLine l blocks
      = s.routeStored l e blocks := by
    rw [State.trimPending_eq]
    rfl
  have blocks : (decide acts && e.action == .blockGrants) = decide (acts ∧ e.action = .blockGrants) := by
    rw [Bool.decide_and, beq_eq_decide]
  unfold State.reroute
  simp only [was, is, stored, blocks, Bool.and_eq_true, Bool.not_eq_true', decide_eq_true_eq, decide_eq_false_iff_not]
  split
  next newly => exact State.lineBecomesActive_eq _ l (hacts.mp newly.1).1
  · rfl

/-- Settles O52: the bytes read as the entry (`routeOf_eq_some`), and the entry stored with what follows
(`State.reroute_eq`). -/
theorem writeRouteReplacesTheEntry : Obligations.WriteRouteReplacesTheEntry := by
  intro tag l mask polarity trigger action bay notify filterN s ready sent
  have answered {t : State} {r : Reply}
      (ho : ownWriteRoute .office [l, mask, polarity, trigger, action, bay, notify, filterN] s = (t, r)) :
      sent = .next (t.replies .office .writeRoute tag r.code r.body) :=
    exec_office (k := .writeRoute) ready rfl rfl tag rfl (by simp) ho
  refine ⟨fun bad => answered (r := refuse .range) ?_, ?_⟩
  · unfold ownWriteRoute
    rcases bad with h | h
    · simp only [lineOf_eq_none h]
    · simp only [routeOf_eq_none h]
      cases lineOf l.toNat <;> rfl
  intro line e hl hmask hpolarity htrigger haction hbay hnotify hports hfilter figure
  have code : action.toNat = e.action.code := by
    rw [haction]
    cases e.action <;> rfl
  have read := routeOf_eq_some hmask hpolarity htrigger code hbay hnotify hports hfilter figure
  have taken : ownWriteRoute .office [l, mask, polarity, trigger, action, bay, notify, filterN] s
      = if s.anyMoving then (s, refuse .busy) else (s.reroute line e, okay []) := by
    simp only [ownWriteRoute, hl, lineOf_val, read]
  have moving : s.anyMoving = true ↔ ∃ r : RecordRef, ∃ c ∈ s.ret.pool[r], c.state = .running ∨ c.state = .filling := by
    simp [State.anyMoving, State.anyRecord_iff]
  refine ⟨fun busy => answered (r := refuse .busy) (taken.trans (if_pos (moving.mpr busy))), fun still => ?_⟩
  have idle : ¬ s.anyMoving = true := fun h => by
    obtain ⟨r, c, hc, hq⟩ := moving.mp h
    exact still r c hc hq
  intro old acts stored
  have done : sent = .next ((if acts e ∧ ¬ acts old then stored.lineActs line e else stored).replies
      .office .writeRoute tag .ok []) := by
    refine answered (r := okay []) (taken.trans ((if_neg idle).trans ?_))
    rw [State.reroute_eq s line e (acts := acts e) (acted := acts old) Iff.rfl Iff.rfl]
    rfl
  refine ⟨fun newly before => ?_, fun other => ?_⟩
  · rw [done, if_pos ⟨newly, before⟩]
  · rw [done, if_neg (by tauto)]

end Sys2Proof.Machine
end

section
/-! # What the reads of the part report (R81, R117, R156, R166, R176) -/

namespace Sys2Proof.Machine

variable {s : State}

/-- A flag as a byte. -/
abbrev flagByte (b : Bool) : Byte := if b = true then 1#8 else 0#8

theorem byteFlag_eq (b : Bool) : byteFlag b = [flagByte b] := by cases b <;> rfl

/-- The entries of a table, in order. -/
theorem toList_eq_map {α : Type} {n : Nat} (v : Vector α n) : v.toList = (List.finRange n).map (fun i => v[i]) :=
  List.ext_getElem (by simp) (fun _ _ _ => by simp)

theorem flatMap_toList {α : Type} {n : Nat} (v : Vector α n) (f : α → List Byte) :
    v.toList.flatMap f = (List.finRange n).flatMap (fun i => f v[i]) := by
  rw [toList_eq_map, List.flatMap_map]

/-- The yard mode as a byte (10.4). -/
theorem YardMode.byte_eq (m : YardMode) : byte1 m.code = [if m = .opened then 1#8 else 0#8] := by cases m <;> rfl

/-- The block causes byte (10.4). -/
theorem Arbiter.causes_eq (a : Arbiter) : byte1 a.causesNumber = [BitVec.ofNat 8 (a.lowPressure.toNat
    + 2 * (decide (∃ l : Line, a.blockLines[l] = true)).toNat + 4 * a.recovery.toNat)] := by
  have number : a.causesNumber = a.lowPressure.toNat + 2 * a.blockGrants.toNat + 4 * a.recovery.toNat := by
    unfold Arbiter.causesNumber flagsNumber
    simp only [List.foldr_cons, List.foldr_nil]
    omega
  rw [number, Arbiter.blockGrants, anyOf_eq_decide]
  rfl

/-! ## STATUS -/

/-- The OVERFILL byte is the rack's (10.4). -/
theorem State.overfillByte_eq (s : State) (pos : Position) : byteFlag (pos == .rack && (s.hold pos).overfill)
    = if pos = .rack then byteFlag (s.act.holds[(4 : Fin 5)]).overfill else [0#8] := by
  cases pos <;> rfl

/-- A position's binding as a slot number (10.4). -/
theorem State.bindingByte_eq (s : State) (pos : Position) :
    (match s.binding pos with | some i => slotNumber i | none => 0)
      = match s.ret.bindings[pos.index] with | none => 0 | some i => i.val + 1 := by
  unfold State.binding
  cases s.ret.bindings[pos.index] <;> rfl

/-- STATUS from a position (R166). -/
theorem ownStatus_position (pos : Position) (body : List Byte) : ownStatus pos.port body s = (s, okay (
    byte1 s.act.mode.code ++ (byte1 (match s.binding pos with | some i => slotNumber i | none => 0) ++ lineBytes (s.hold pos).lines
      ++ byteFlag (pos == .rack && (s.hold pos).overfill))
    ++ byte1 s.act.arbiter.causesNumber ++ byteFlag (s.notice pos.port).attention
    ++ byte1 (s.port pos.port).discards)) := by
  cases pos <;> rfl

/-- STATUS from the office, which has no position (R166). -/
theorem ownStatus_office (body : List Byte) : ownStatus .office body s = (s, okay (byte1 s.act.mode.code
    ++ (byte1 0 ++ byte2 0 ++ byte1 0) ++ byte1 s.act.arbiter.causesNumber ++ byteFlag (s.notice .office).attention
    ++ byte1 (s.port .office).discards)) := rfl

/-! ## READ-LOOP -/

theorem readLoopReply_eq (s : State) : readLoopReply s = okay (byte1 s.act.arbiter.capacity
    ++ byte1 s.act.arbiter.granted ++ byte1 s.act.arbiter.causesNumber ++ lineBytes s.act.arbiter.blockLines
    ++ (List.finRange 4).flatMap (fun b => byte1 (s.sharesAt b)) ++ byte1 s.act.arbiter.queue.length
    ++ s.act.arbiter.queue.flatMap (fun q => byte1 (q.bay.val + 1) ++ byte1 q.ref.val ++ byte1 q.shares
      ++ byteFlag q.clamped ++ byte1 q.passCount)) := by
  have shares : (List.finRange 4).flatMap (fun b => byte1 (s.sharesAt b))
      = byte1 (s.sharesAt 0) ++ (byte1 (s.sharesAt 1) ++ (byte1 (s.sharesAt 2) ++ byte1 (s.sharesAt 3))) := by
    have bays : List.finRange 4 = [0, 1, 2, 3] := by decide
    simp only [bays, List.flatMap_cons, List.flatMap_nil, List.append_nil]
  rw [shares, ← List.append_assoc, ← List.append_assoc, ← List.append_assoc]
  rfl

/-! ## READ-INSTRUMENTS -/

theorem SampleSlot.bytes_eq (x : SampleSlot) : x.bytes = (match x.code with
      | none => [0#8, 0#8, 0#8]
      | some k => [if x.faulty then 2#8 else 1#8] ++ byte2 k.val)
    ++ (match x.lastGood with
      | none => [0#8, 0#8, 0#8, 0xFF#8, 0xFF#8]
      | some v => [1#8] ++ byte2 v ++ byte2 x.age) := by
  obtain ⟨code, faulty, good, age⟩ := x
  cases code <;> cases faulty <;> cases good <;> simp [SampleSlot.bytes, byte1, byte2]

theorem PulseChannel.bytes_eq (c : PulseChannel) (n : Nat) : c.bytes n
    = [if c.filter.accepted = .high then 1#8 else 0#8] ++ byte1 c.filter.run ++ byte1 n ++ byte2 c.total := by
  unfold PulseChannel.bytes
  cases c.filter.accepted <;> rfl

theorem BayOutputs.bytes_eq (o : BayOutputs) : o.bytes = byte2 o.valve ++ byte2 o.sweep ++ (match o.generator with
    | none => [0#8, 0#8]
    | some w => [1#8, if w.direction = .down then 1#8 else 0#8]) := by
  obtain ⟨valve, sweep, generator⟩ := o
  rcases generator with _ | ⟨position, _ | _⟩ <;> rfl

/-! ## READ-ROUTE -/

/-- A set of ports as the number in which port j stands for 2 to the power j (10.6). -/
theorem flagsNumber_ports (v : PortSet) :
    flagsNumber v.toList = (List.finRange 6).foldl (fun n j => n + if v[j] then 2 ^ j.val else 0) 0 := by
  have power (b : Bool) (k : Nat) : (if b = true then 2 ^ k else 0) = flagNumber b * 2 ^ k := by cases b <;> simp
  have ports : List.finRange 6 = [0, 1, 2, 3, 4, 5] := by decide
  rw [toList_eq_map, ports]
  simp only [List.map_cons, List.map_nil, List.foldl_cons, List.foldl_nil, flagsNumber_cons, flagsNumber_nil, power]
  simp only [Fin.val_zero, Fin.val_one, Fin.val_two, show ((3 : Fin 6) : Nat) = 3 from rfl,
    show ((4 : Fin 6) : Nat) = 4 from rfl, show ((5 : Fin 6) : Nat) = 5 from rfl]
  ring

/-- The action and the bay byte of an entry (R156). -/
theorem Action.bytes_eq (a : Action) (free : Nat) : byte1 a.code ++ [routeBayNumber free a] = match a with
    | .note => [0#8, Config.routeBayByte free]
    | .holdBay b => [1#8] ++ byte1 (b.val + 1)
    | .holdAll => [2#8, Config.routeBayByte free]
    | .stopRack => [3#8, Config.routeBayByte free]
    | .blockGrants => [4#8, Config.routeBayByte free] := by
  cases a <;> rfl

theorem Route.bytes_eq (e : Route) (l : Line) (free : Nat) {x : Byte} (hx : x.toNat = l.val) : e.bytes l free
    = [x, flagByte e.masked, flagByte (e.polarity = .activeHigh), flagByte (e.trigger = .level)]
      ++ (match e.action with
        | .note => [0#8, Config.routeBayByte free]
        | .holdBay b => [1#8] ++ byte1 (b.val + 1)
        | .holdAll => [2#8, Config.routeBayByte free]
        | .stopRack => [3#8, Config.routeBayByte free]
        | .blockGrants => [4#8, Config.routeBayByte free])
      ++ [BitVec.ofNat 8 ((List.finRange 6).foldl (fun n j => n + if e.notify[j] then 2 ^ j.val else 0) 0)]
      ++ byte1 e.filterN := by
  have line : byte1 l.val = [x] := by simp [byte1, ← hx]
  rw [← Action.bytes_eq, ← flagsNumber_ports]
  unfold Route.bytes
  rw [line, byteFlag_eq]
  obtain ⟨masked, polarity, trigger, action, ports, n⟩ := e
  cases polarity <;> cases trigger <;> rfl

/-- The level accepted, as a byte (10.6). -/
theorem levelByte_eq (x : Level) : byte1 (levelCode x) = [flagByte (x = .high)] := by cases x <;> rfl

/-- A line's active state as a byte (R147). -/
theorem State.lineActive_eq (s : State) (l : Line) : s.lineActive l = decide ((s.act.lines[l]).accepted
    = if (s.ret.routes[l]).polarity = .activeLow then Level.low else Level.high) := by
  rw [Bool.eq_iff_iff, State.lineActive_iff, decide_eq_true_iff]

/-- The five hold sets' lines, in the order of the positions. -/
theorem State.holdBytes_eq (s : State) : (List.finRange 5).flatMap (fun q => lineBytes (s.act.holds[q]).lines)
    = lineBytes (s.hold (.bay 0)).lines ++ lineBytes (s.hold (.bay 1)).lines ++ lineBytes (s.hold (.bay 2)).lines
      ++ lineBytes (s.hold (.bay 3)).lines ++ lineBytes (s.hold .rack).lines := by
  have places : List.finRange 5 = [0, 1, 2, 3, 4] := by decide
  simp only [places, List.flatMap_cons, List.flatMap_nil, List.append_assoc, List.append_nil]
  rfl

/-- Settles O55: each read's owner changes nothing, and its bytes are what the lemmas above say. -/
theorem readsReportWhatStands : Obligations.ReadsReportWhatStands := by
  intro tag x s a causes mode
  have modeByte : byte1 s.act.mode.code = [mode] := YardMode.byte_eq _
  have causesByte : byte1 a.causesNumber = [causes] := a.causes_eq
  refine ⟨fun pos ready => ?_, fun ready => ⟨?_, ?_, ?_, fun hx => ?_, fun l hx => ?_, fun hx => ?_, fun hx => ?_,
    fun i hx => ?_⟩⟩
  · have entry : catalogue pos.port .status = some (entryOf 0 true) := by cases pos <;> rfl
    have answered := exec_owned ready .status tag [] (by simp)
      (commonCheck_none entry rfl (fun _ => rfl) (fun h => by cases h)) (ownStatus_position pos [])
    refine answered.trans ?_
    rw [modeByte, causesByte, State.bindingByte_eq, State.overfillByte_eq]
    simp only [List.append_assoc]
    rfl
  · have answered := exec_office (k := .status) ready rfl rfl tag (body := []) rfl (by simp) (ownStatus_office [])
    have noPlace : byte1 0 ++ byte2 0 ++ byte1 0 = [0#8, 0#8, 0#8, 0#8] := by decide
    refine answered.trans ?_
    rw [modeByte, causesByte, noPlace]
    rfl
  · refine exec_office (k := .readLoop) ready rfl rfl tag (body := []) rfl (by simp) (r := okay _) (Prod.ext rfl ?_)
    change readLoopReply s = _
    rw [readLoopReply_eq, causesByte]
  · refine exec_office (k := .readInstruments) ready rfl rfl tag (body := []) rfl (by simp) (r := okay _)
      (Prod.ext rfl (congrArg okay ?_))
    simp only [flatMap_toList, SampleSlot.bytes_eq, PulseChannel.bytes_eq, BayOutputs.bytes_eq]
    rfl
  · exact exec_office (k := .readRoute) ready rfl rfl tag (body := [x]) rfl (by simp) (r := refuse .range)
      (by simp only [owner, ownReadRoute, lineOf_eq_none hx])
  · intro e f flag report
    refine exec_office (k := .readRoute) ready rfl rfl tag (body := [x]) rfl (by simp) (r := okay report) ?_
    simp only [owner, ownReadRoute, hx, lineOf_val, Route.bytes_eq _ l _ hx, levelByte_eq, byteFlag_eq,
      State.lineActive_eq, report, State.holdBytes_eq, List.append_assoc]
    rfl
  · exact exec_office (k := .readSetting) ready rfl rfl tag (body := [x]) rfl (by simp) (r := refuse .range) (by
      simp only [owner, ownReadSetting, settingOf_eq_none (.inr hx), if_neg (show ¬ x.toNat = 0 by omega)])
  · exact exec_office (k := .readSetting) ready rfl rfl tag (body := [x]) rfl (by simp) (r := okay _) (by
      simp only [owner, ownReadSetting, if_pos hx, modeByte])
  · exact exec_office (k := .readSetting) ready rfl rfl tag (body := [x]) rfl (by simp) 
      (r := okay (byte2 s.ret.settings[i]))
      (by simp only [owner, ownReadSetting, hx, settingOf_number, if_neg (Nat.succ_ne_zero _)])

end Sys2Proof.Machine
end

section
/-! # The supply temperatures held, beside the converter's slot 0 (R88, R104)

The law compares two things: what slot 0 gives, and what each wash unit holds. Channel 0's conversion writes both, a
millisecond ages both, a start empties both, and every other operation leaves both as they are; that is one lemma an
operation. -/

namespace Sys2Proof.Machine

variable {s t : State}

/-- The supply temperature a sample slot gives: its last good value, with its age (R101, R103). -/
def SampleSlot.supply (x : SampleSlot) : Option Supply := x.lastGood.map fun v => ⟨v, x.age⟩

/-- What the law reads: the supply temperature slot 0 gives, and the one each bay's wash unit holds. -/
@[ext] structure SupplyView where
  given : Option Supply
  held : Bay → Option Supply

def State.supplyView (s : State) : SupplyView := ⟨(s.act.slots[(0 : Probe)]).supply, fun b => (s.act.units[b]).supply⟩

/-- Every wash unit holds what slot 0 gives. -/
def SupplyView.Agrees (x : SupplyView) : Prop := ∀ b, x.held b = x.given

theorem State.supplyLaw_iff : s.SupplyLaw ↔ (s.mainPower = true → s.supplyView.Agrees) := Iff.rfl

/-- The view is read off the slots and the units. -/
theorem State.supplyView_congr (slots : t.act.slots = s.act.slots) (units : t.act.units = s.act.units) :
    t.supplyView = s.supplyView := by
  rw [State.supplyView, State.supplyView, slots, units]

section

variable (s) (b : Bay) (r : RecordRef)

/-! ## Named updates and hand-overs -/

@[simp] theorem State.setRecord_supplyView (c : Option Compartment) : (s.setRecord r c).supplyView = s.supplyView := rfl

theorem State.setArbiter_supplyView (a : Arbiter) : (s.setArbiter a).supplyView = s.supplyView := rfl

@[simp] theorem State.setFillUnit_supplyView (u : FillUnit) : (s.setFillUnit u).supplyView = s.supplyView := rfl

/-- A unit written with the supply temperature it held. -/
theorem State.setUnit_supplyView {u : WashUnit} (h : u.supply = (s.act.units[b]).supply) :
    (s.setUnit b u).supplyView = s.supplyView := by
  refine SupplyView.ext rfl (funext fun b' => ?_)
  change ((s.act.units.set b u)[b']).supply = (s.act.units[b']).supply
  rw [table_set]
  split
  next hb => rw [hb, h]
  · rfl

/-- A slot beside slot 0 written. -/
theorem State.setSlot_supplyView {ch : Probe} (h : ch ≠ 0) (x : SampleSlot) :
    (s.setSlot ch x).supplyView = s.supplyView := by
  refine SupplyView.ext ?_ rfl
  change ((s.act.slots.set ch x)[(0 : Probe)]).supply = _
  rw [table_set, if_neg h.symm]
  rfl

@[simp] theorem State.changeRecord_supplyView (c : Compartment) : (s.changeRecord r c).supplyView = s.supplyView := by
  obtain ⟨v, frame⟩ := s.changeRecord_frame r c
  rw [frame]
  rfl

@[simp] theorem State.transition_supplyView (expected : List CState) (f : Compartment → Compartment) :
    (s.transition r expected f).supplyView = s.supplyView := by
  obtain ⟨c, -, -, h⟩ | ⟨-, h⟩ := s.transition_cases r expected f
  · rw [h, State.changeRecord_supplyView]
  · rw [h]

variable {s} in
/-- A fold of moves that each leave the view as it is. -/
theorem State.foldl_supplyView {α : Type} {f : State → α → State}
    (hf : ∀ (s : State) x, (f s x).supplyView = s.supplyView) (xs : List α) (s : State) :
    (xs.foldl f s).supplyView = s.supplyView := by
  induction xs generalizing s with
  | nil => rfl
  | cons x xs ih => exact (ih (f s x)).trans (hf s x)

/-! ## The wash cycle -/

variable (c : Compartment)

theorem State.leaveRunning_supplyView (shares : Nat) : (s.leaveRunning b shares).supplyView = s.supplyView := rfl

theorem State.releaseLoop_supplyView : (s.releaseLoop b r c).supplyView = s.supplyView := by
  unfold State.releaseLoop
  split <;> rfl

/-- A unit written in a state whose units stand, with the supply temperature it held. -/
theorem State.setUnit_supplyView_of {u : WashUnit} (view : t.supplyView = s.supplyView)
    (h : u.supply = (s.act.units[b]).supply) : (t.setUnit b u).supplyView = s.supplyView :=
  (t.setUnit_supplyView b (h.trans (congrFun (congrArg SupplyView.held view) b).symm)).trans view

/-- The unit becomes idle and keeps its supply temperature (R83). -/
theorem State.endWash_supplyView (n : Note) : (s.endWash b r c n).supplyView = s.supplyView :=
  (State.changeRecord_supplyView _ _ _).trans (s.setUnit_supplyView_of b (s.releaseLoop_supplyView b r c) rfl)

theorem State.stopWash_supplyView (n : Note) : (s.stopWash r c n).supplyView = s.supplyView := by
  unfold State.stopWash
  split
  · exact s.endWash_supplyView _ r c n
  · exact s.changeRecord_supplyView r _

theorem State.enterQueued_supplyView (p : Progress) (ph : Phase) :
    (s.enterQueued b r c p ph).supplyView = s.supplyView :=
  (State.changeRecord_supplyView _ _ _).trans (s.setUnit_supplyView_of b (s.setArbiter_supplyView _) rfl)

/-- Both ends of a phase keep the unit's supply temperature (R49 to R51). -/
theorem State.completePhase_supplyView (p : Progress) (ph : Phase) :
    (s.completePhase b r c p ph).supplyView = s.supplyView := by
  have out := s.leaveRunning_supplyView b p.sharesHeld
  unfold State.completePhase
  simp only
  split
  · exact (State.changeRecord_supplyView _ _ _).trans (s.setUnit_supplyView_of b out rfl)
  · exact (State.changeRecord_supplyView _ _ _).trans (s.setUnit_supplyView_of b out rfl)

theorem State.takeGrant_supplyView (e : QueueEntry) (backfill : Bool) (p : Progress) (ph : Phase) :
    (s.takeGrant e backfill c p ph).supplyView = s.supplyView :=
  (State.changeRecord_supplyView _ _ _).trans (s.setUnit_supplyView_of e.bay (s.setArbiter_supplyView _) rfl)

theorem State.grantStep_supplyView : s.grantStep.supplyView = s.supplyView := by
  unfold State.grantStep
  split
  · rfl
  · split
    · rfl
    · split
      · split
        · exact s.takeGrant_supplyView ..
        · rfl
      · rfl

theorem State.expire_supplyView (runs : Bool) {stopped : WashUnit} (h : stopped.supply = (s.act.units[b]).supply)
    (y : CState) (n : Note) : (s.expire b runs stopped y n).supplyView = s.supplyView := by
  have stops := s.setUnit_supplyView b h
  unfold State.expire
  split
  · split
    · exact stops
    · split
      · exact stops
      · split
        · exact s.endWash_supplyView ..
        · exact stops
  · rfl

theorem State.phaseTick_supplyView : (s.phaseTick b).supplyView = s.supplyView := by
  unfold State.phaseTick
  split
  · rfl
  · split <;> rfl

theorem State.phaseExpiry_supplyView : (s.phaseExpiry b).supplyView = s.supplyView := by
  unfold State.phaseExpiry
  split
  · rfl
  · split
    · exact s.endWash_supplyView ..
    · rfl

theorem State.holdStep_supplyView : (s.holdStep b).supplyView = s.supplyView := by
  unfold State.holdStep
  simp only
  split
  · rfl
  · split
    · rfl
    · split
      · rfl
      · split
        · exact (State.changeRecord_supplyView _ _ _).trans
            (s.setUnit_supplyView_of b (s.releaseLoop_supplyView b _ _) rfl)
        · rfl

theorem State.resumeStep_supplyView : (s.resumeStep b).supplyView = s.supplyView := by
  unfold State.resumeStep
  simp only
  split
  · rfl
  · split
    · rfl
    · split
      · rfl
      · split_ifs
        · exact (State.changeRecord_supplyView _ _ _).trans (s.setUnit_supplyView b rfl)
        · split
          · exact s.enterQueued_supplyView ..
          · rfl
        · rfl

theorem State.closeInterval_supplyView : (s.closeInterval b).supplyView = s.supplyView := by
  unfold State.closeInterval
  simp only
  split
  · rfl
  next w _ =>
    split_ifs
    · exact s.completePhase_supplyView ..
    · exact s.setUnit_supplyView_of b (s.setRecord_supplyView w.ref _) rfl
    · rfl

theorem State.conductivitySample_supplyView (sample : Option Nat) :
    (s.conductivitySample b sample).supplyView = s.supplyView := by
  have sampled (e : Endpoint) :
      (s.setUnit b ((s.act.units[b]).sampled e s.ret.hysteresis sample)).supplyView = s.supplyView :=
    s.setUnit_supplyView b rfl
  unfold State.conductivitySample
  split
  · rfl
  · split
    · rfl
    · simp only
      split
      · exact (State.completePhase_supplyView ..).trans (sampled _)
      · exact (State.setRecord_supplyView ..).trans (sampled _)

/-! ## Lapses, pulses and the sweep -/

@[simp] theorem State.lapse_supplyView : (s.lapse r).supplyView = s.supplyView := s.transition_supplyView r _ _

theorem State.lapseAll_supplyView : s.lapseAll.supplyView = s.supplyView :=
  State.foldl_supplyView (fun s r => s.lapse_supplyView r) _ s

theorem State.timerCheck_supplyView : s.timerCheck.supplyView = s.supplyView := by
  unfold State.timerCheck
  split <;> rfl

theorem State.lapseStep_supplyView : (s.lapseStep r).supplyView = s.supplyView := by
  unfold State.lapseStep
  split
  · exact State.lapse_supplyView _ r
  · rfl

theorem State.rackPulse_supplyView : s.rackPulse.supplyView = s.supplyView := by
  have joined (b : Bool) : (if b then s.joinOverfill else s).supplyView = s.supplyView := by split <;> rfl
  unfold State.rackPulse
  split
  · rfl
  · split
    · rfl
    · split
      · simp only
        split
        · rw [State.changeRecord_supplyView, joined]
        · rw [State.setRecord_supplyView, joined]
      · rfl

theorem State.stoppedStep_supplyView : s.stoppedStep.supplyView = s.supplyView := by
  unfold State.stoppedStep
  split
  · simp only
    split
    · rfl
    · exact State.transition_supplyView _ _ _ _
  · rfl

theorem State.bayPulse_supplyView : (s.bayPulse b).supplyView = s.supplyView := by
  unfold State.bayPulse
  simp only
  split
  · rfl
  · exact s.setUnit_supplyView b rfl

theorem State.samplePulse_supplyView (m : Position) (level : Level) :
    (s.samplePulse m level).supplyView = s.supplyView := by
  unfold State.samplePulse
  simp only
  split
  · cases m with
    | bay b => exact State.bayPulse_supplyView _ b
    | rack => exact State.rackPulse_supplyView _
  · rfl

theorem State.sweepStep_supplyView : (s.sweepStep b).supplyView = s.supplyView := by
  unfold State.sweepStep
  simp only
  split <;> rfl

/-! ## Lines and settings -/

variable (l : Line)

theorem State.joinHold_supplyView (p : Position) : (s.joinHold p l).supplyView = s.supplyView := by
  unfold State.joinHold State.rackHeld
  simp only
  split
  · split <;> rfl
  · rfl

theorem State.lineAction_supplyView (a : Action) : (s.lineAction l a).supplyView = s.supplyView := by
  cases a with
  | note => rfl
  | holdBay b => exact s.joinHold_supplyView l _
  | holdAll => simp only [State.lineAction, State.joinHold_supplyView]
  | stopRack => exact s.joinHold_supplyView l _
  | blockGrants => rfl

theorem State.lineNotices_supplyView (ports : PortSet) : (s.lineNotices l ports).supplyView = s.supplyView := by
  refine State.foldl_supplyView (fun t p => ?_) _ s
  split <;> rfl

theorem State.lineBecomesActive_supplyView (e : Route) : (s.lineBecomesActive l e).supplyView = s.supplyView := by
  unfold State.lineBecomesActive
  split
  · rfl
  · rw [State.lineNotices_supplyView, State.lineAction_supplyView]

theorem State.sampleLine_supplyView (level : Level) : (s.sampleLine l level).supplyView = s.supplyView := by
  unfold State.sampleLine
  simp only
  split
  · split
    · exact State.lineBecomesActive_supplyView _ l _
    · rfl
  · rfl

theorem State.trimPending_supplyView (old new : PortSet) : (s.trimPending l old new).supplyView = s.supplyView := by
  refine State.foldl_supplyView (fun t p => ?_) _ s
  split <;> rfl

theorem State.reroute_supplyView (e : Route) : (s.reroute l e).supplyView = s.supplyView := by
  have trimmed := (s.setRoute l e).trimPending_supplyView l (s.ret.routes[l]).notify e.notify
  unfold State.reroute
  simp only
  split
  · exact (State.lineBecomesActive_supplyView _ l e).trans trimmed
  · exact trimmed

theorem State.settingEffect_supplyView (i : Fin 25) (v : Nat) : (s.settingEffect i v).supplyView = s.supplyView := by
  unfold State.settingEffect
  split
  · rfl
  · split
    · rfl
    · simp only
      split <;> rfl

end

end Sys2Proof.Machine
end

section
/-! # No request reaches the supply temperatures -/

namespace Sys2Proof.Machine

variable {s : State}

section

variable (x : Named)

theorem setIntentOn_supplyView (intent : Nat) : (setIntentOn x intent s).1.supplyView = s.supplyView := by
  have written (d : Demand) (k : ClassNo) (program : Option ProgramNo) :
      (s.retarget x k d program).supplyView = s.supplyView := by
    unfold State.retarget
    simp only
    split <;> simp
  unfold setIntentOn
  split
  · rfl
  · split
    · rfl
    · split
      · rfl
      · rfl
      · rfl
      · exact written _ _ _

theorem inspectPassOn_supplyView (inspector : Nat) : (inspectPassOn x inspector s).1.supplyView = s.supplyView := by
  unfold inspectPassOn
  split_ifs
  · rfl
  · rfl
  · split
    · exact State.changeRecord_supplyView _ _ _
    · rfl

theorem inspectFailOn_supplyView (flag : Nat) : (inspectFailOn x flag s).1.supplyView = s.supplyView := by
  unfold inspectFailOn
  split_ifs
  · rfl
  · rfl
  · exact s.changeRecord_supplyView _ _

/-- FILL-START lapses, opens a fill, or is refused (R133, R134). -/
theorem fillStartOn_supplyView (cargo preset : Nat) : (fillStartOn x cargo preset s).1.supplyView = s.supplyView := by
  unfold fillStartOn State.openFill
  split
  · rfl
  · split
    · rfl
    · split
      · split_ifs <;> simp
      · rfl

theorem fillEndOn_supplyView (litres : Nat) : (fillEndOn x litres s).1.supplyView = s.supplyView := by
  unfold fillEndOn
  split <;> simp

theorem fillAbortOn_supplyView : (fillAbortOn x s).1.supplyView = s.supplyView := by
  unfold fillAbortOn
  split
  · split <;> simp
  · rfl

theorem startWashOn_supplyView (b : Bay) : (startWashOn b x s).1.supplyView = s.supplyView := by
  unfold startWashOn
  split_ifs
  · rfl
  · rfl
  · rfl
  · split
    · rfl
    · exact s.enterQueued_supplyView ..

theorem phaseGoOn_supplyView : (phaseGoOn x s).1.supplyView = s.supplyView := by
  unfold phaseGoOn
  split
  · split
    · rfl
    · exact s.enterQueued_supplyView ..
  · rfl

end

theorem resumeAt_supplyView (pos : Position) : (resumeAt pos s).1.supplyView = s.supplyView := by
  unfold resumeAt
  split <;> rfl

theorem State.admitTanker_supplyView (s : State) (i : Slot) (token : List Byte) (cs : List (Nat × List ClassNo)) :
    (s.admitTanker i token cs).supplyView = s.supplyView := by
  rw [State.admitTanker, State.admitRecords_eq_foldl]
  exact State.foldl_supplyView (fun s x => s.changeRecord_supplyView _ _) _ _

theorem State.depart_supplyView (s : State) (i : Slot) (x : Tanker) : (s.depart i x).supplyView = s.supplyView := by
  rw [State.depart_eq]
  rfl

section

variable (p : Port) (body : List Byte)

theorem ownAckLine_supplyView : (ownAckLine p body s).1.supplyView = s.supplyView := by
  unfold ownAckLine
  split
  · split
    · rfl
    · split <;> rfl
  · rfl

theorem ownResume_supplyView : (ownResume p body s).1.supplyView = s.supplyView := by
  unfold ownResume
  split
  · exact resumeAt_supplyView _
  · split
    · rfl
    · exact resumeAt_supplyView _
  · rfl

theorem ownAdmit_supplyView : (ownAdmit p body s).1.supplyView = s.supplyView := by
  unfold ownAdmit
  split
  · rfl
  · split
    · rfl
    · split
      · rfl
      · split
        · split
          · rfl
          · split
            · rfl
            · split
              · rfl
              · split
                · rfl
                · exact s.admitTanker_supplyView ..
        · rfl

theorem ownDepart_supplyView : (ownDepart p body s).1.supplyView = s.supplyView := by
  unfold ownDepart
  split
  · split
    · rfl
    · split_ifs
      · rfl
      · rfl
      · exact s.depart_supplyView ..
  · rfl

theorem ownSetIntent_supplyView : (ownSetIntent p body s).1.supplyView = s.supplyView := by
  unfold ownSetIntent
  split
  · split
    · rfl
    · exact setIntentOn_supplyView ..
  · rfl

theorem ownEmptied_supplyView : (ownEmptied p body s).1.supplyView = s.supplyView := by
  unfold ownEmptied
  split
  · split
    · rfl
    · split
      · rfl
      · exact s.changeRecord_supplyView ..
  · rfl

theorem ownVoidRelease_supplyView : (ownVoidRelease p body s).1.supplyView = s.supplyView := by
  unfold ownVoidRelease
  split
  · split
    · rfl
    · split
      · rfl
      · exact s.changeRecord_supplyView ..
  · rfl

theorem ownAbortWash_supplyView : (ownAbortWash p body s).1.supplyView = s.supplyView := by
  unfold ownAbortWash
  split
  · split
    · rfl
    · split
      · exact s.stopWash_supplyView ..
      · rfl
  · rfl

theorem ownCancelWash_supplyView : (ownCancelWash p body s).1.supplyView = s.supplyView := by
  unfold ownCancelWash
  split
  · split
    · rfl
    · split
      · exact s.stopWash_supplyView ..
      · rfl
  · rfl

theorem ownStartWash_supplyView : (ownStartWash p body s).1.supplyView = s.supplyView := by
  unfold ownStartWash
  split
  · split
    · rfl
    · exact startWashOn_supplyView ..
  · rfl

theorem ownPhaseGo_supplyView : (ownPhaseGo p body s).1.supplyView = s.supplyView := by
  unfold ownPhaseGo
  split
  · split
    · rfl
    · exact phaseGoOn_supplyView ..
  · rfl

theorem ownInspectPass_supplyView : (ownInspectPass p body s).1.supplyView = s.supplyView := by
  unfold ownInspectPass
  split
  · split
    · rfl
    · exact inspectPassOn_supplyView ..
  · rfl

theorem ownInspectFail_supplyView : (ownInspectFail p body s).1.supplyView = s.supplyView := by
  unfold ownInspectFail
  split
  · split
    · rfl
    · exact inspectFailOn_supplyView ..
  · rfl

theorem ownFillStart_supplyView : (ownFillStart p body s).1.supplyView = s.supplyView := by
  unfold ownFillStart
  split
  · split
    · rfl
    · exact fillStartOn_supplyView ..
  · rfl

theorem ownFillEnd_supplyView : (ownFillEnd p body s).1.supplyView = s.supplyView := by
  unfold ownFillEnd
  split
  · split
    · rfl
    · exact fillEndOn_supplyView ..
  · rfl

theorem ownFillAbort_supplyView : (ownFillAbort p body s).1.supplyView = s.supplyView := by
  unfold ownFillAbort
  split
  · split
    · rfl
    · exact fillAbortOn_supplyView ..
  · rfl

theorem ownWriteRoute_supplyView : (ownWriteRoute p body s).1.supplyView = s.supplyView := by
  unfold ownWriteRoute
  split
  · split
    · split
      · rfl
      · exact s.reroute_supplyView ..
    · rfl
  · rfl

theorem ownWriteSetting_supplyView : (ownWriteSetting p body s).1.supplyView = s.supplyView := by
  unfold ownWriteSetting
  split
  · split
    · rfl
    · exact State.settingEffect_supplyView ..
  · rfl

theorem ownWriteClass_supplyView : (ownWriteClass p body s).1.supplyView = s.supplyView := by
  unfold ownWriteClass
  repeat' split
  all_goals rfl

theorem ownWriteProgram_supplyView : (ownWriteProgram p body s).1.supplyView = s.supplyView := by
  unfold ownWriteProgram
  repeat' split
  all_goals rfl

theorem ownWriteFollow_supplyView : (ownWriteFollow p body s).1.supplyView = s.supplyView := by
  unfold ownWriteFollow
  repeat' split
  all_goals rfl

theorem ownReadRoute_supplyView : (ownReadRoute p body s).1.supplyView = s.supplyView := by
  unfold ownReadRoute
  repeat' split
  all_goals rfl

theorem ownSetClock_supplyView : (ownSetClock p body s).1.supplyView = s.supplyView := by
  unfold ownSetClock
  repeat' split
  all_goals rfl

theorem ownOpenYard_supplyView : (ownOpenYard p body s).1.supplyView = s.supplyView := by
  unfold ownOpenYard
  split
  · rfl
  · exact s.openMode.lapseAll_supplyView

/-- The owner of each kind leaves the view as it is. -/
theorem owner_supplyView (k : Kind) : (owner k p body s).1.supplyView = s.supplyView := by
  have still {t : State} (act : t.act = s.act) : t.supplyView = s.supplyView :=
    State.supplyView_congr (by rw [act]) (by rw [act])
  by_cases hr : k.reports = true
  · rw [owner_of_reports p body hr]
  cases k <;> try exact absurd rfl hr
  case events | yardReset => rfl
  case dock => exact still (ownDock_frame p body).1
  case undock => exact still (ownUndock_frame p body).1
  case ackLine => exact ownAckLine_supplyView p body
  case resume => exact ownResume_supplyView p body
  case admitTanker => exact ownAdmit_supplyView p body
  case depart => exact ownDepart_supplyView p body
  case setIntent => exact ownSetIntent_supplyView p body
  case emptied => exact ownEmptied_supplyView p body
  case voidRelease => exact ownVoidRelease_supplyView p body
  case cancelWash => exact ownCancelWash_supplyView p body
  case startWash => exact ownStartWash_supplyView p body
  case phaseGo => exact ownPhaseGo_supplyView p body
  case abortWash => exact ownAbortWash_supplyView p body
  case inspectPass => exact ownInspectPass_supplyView p body
  case inspectFail => exact ownInspectFail_supplyView p body
  case fillStart => exact ownFillStart_supplyView p body
  case fillEnd => exact ownFillEnd_supplyView p body
  case fillAbort => exact ownFillAbort_supplyView p body
  case writeClass => exact ownWriteClass_supplyView p body
  case writeProgram => exact ownWriteProgram_supplyView p body
  case writeFollow => exact ownWriteFollow_supplyView p body
  case writeRoute => exact ownWriteRoute_supplyView p body
  case writeSetting => exact ownWriteSetting_supplyView p body
  case readRoute => exact ownReadRoute_supplyView p body
  case setClock => exact ownSetClock_supplyView p body
  case openYard => exact ownOpenYard_supplyView p body

end

/-- A port's command leaves the view as it is. -/
theorem State.ThroughPort.supplyView {t : State} (h : s.ThroughPort t) : t.supplyView = s.supplyView := by
  have ports {u v : State} (same : u.SameButPorts v) : v.supplyView = u.supplyView :=
    State.supplyView_congr (by rw [same.act]) (by rw [same.act])
  cases h with
  | still same => exact ports same
  | served u p f before after =>
    refine (ports after).trans (Eq.trans ?_ (ports before))
    obtain same | ⟨k, -, same⟩ := serve_cases p f u <;> rw [same]
    exact owner_supplyView p f.body k

end Sys2Proof.Machine
end

section
/-! # Every step keeps the law of the supply temperatures -/

namespace Sys2Proof.Machine

variable {s t : State}

/-! ## Conversions, ages and the starts -/

/-- What a slot gives after a conversion: a good sample at age 0, and after a faulty one what it gave (R103). -/
theorem SampleSlot.supply_converted (x : SampleSlot) (ch : Probe) (code : Code) :
    (x.converted ch code).supply = ((codeValue ch code).map fun v => ⟨v, 0⟩).or x.supply := by
  unfold SampleSlot.converted
  cases codeValue ch code <;> rfl

/-- What a unit holds after a sample of channel 0, likewise (R88, R104). -/
theorem State.supplySample_held (s : State) (sample : Option Nat) (b : Bay) :
    (s.supplySample sample).supplyView.held b = (sample.map fun v => ⟨v, 0⟩).or (s.supplyView.held b) := by
  cases sample with
  | none => rfl
  | some v => simp [State.supplyView, State.supplySample, mapTable_eq_map]

@[simp] theorem State.supplySample_given (s : State) (sample : Option Nat) :
    (s.supplySample sample).supplyView.given = s.supplyView.given := by
  cases sample <;> rfl

/-- A sample of channel 0 reaches slot 0 and every unit in one step (R88, R104). -/
theorem State.supplySample_agrees (law : s.supplyView.Agrees) (code : Code) (next : Probe) :
    ((s.slotConverted 0 next ((s.act.slots[(0 : Probe)]).converted 0 code)).supplySample
      (codeValue 0 code)).supplyView.Agrees := by
  intro b
  have given : ((s.act.slots.set (0 : Probe) ((s.act.slots[(0 : Probe)]).converted 0 code))[(0 : Probe)]).supply
      = ((codeValue 0 code).map fun v => ⟨v, 0⟩).or s.supplyView.given := by
    rw [table_set, if_pos rfl, SampleSlot.supply_converted]
    rfl
  rw [State.supplySample_held, State.supplySample_given]
  exact (congrArg (Option.or _) (law b)).trans given.symm

/-- Channels 1 to 5 write neither slot 0 nor a supply temperature (R101, R104). -/
theorem State.convert_supplyView {ch : Probe} (h : ch ≠ 0) (code : Code) :
    (s.convert ch code).supplyView = s.supplyView := by
  have slotted := State.setSlot_supplyView { s with act := { s.act with scanNext := ch + 1 } } h
    ((s.act.slots[ch]).converted ch code)
  have beside : ¬ ch.val = 0 := fun e => h (Fin.ext e)
  unfold State.convert State.deliverSample
  rw [if_neg beside]
  split
  · split
    · exact slotted
    · exact (State.conductivitySample_supplyView ..).trans slotted
  · rfl

theorem State.convert_agrees (law : s.supplyView.Agrees) (ch : Probe) (code : Code) :
    (s.convert ch code).supplyView.Agrees := by
  by_cases h : ch = 0
  · subst h
    by_cases next : s.act.scanNext = 0
    · rw [State.convert_supply next]
      exact State.supplySample_agrees law code 1
    · rw [State.convert, if_neg next]
      exact law
  · rw [State.convert_supplyView h]
    exact law

/-- A supply temperature a millisecond on (R88). -/
def Supply.aged (x : Supply) : Supply := { x with age := ageOn x.age }

/-- A millisecond ages slot 0 and every unit's copy alike (R88, R101). -/
theorem State.ageStep_agrees (law : s.supplyView.Agrees) : s.ageStep.supplyView.Agrees := by
  intro b
  have held : s.ageStep.supplyView.held b = (s.supplyView.held b).map Supply.aged := by
    simp only [State.supplyView, State.ageStep, mapTable_eq_map, Fin.getElem_fin, Vector.getElem_map]
    rfl
  have given : s.ageStep.supplyView.given = s.supplyView.given.map Supply.aged := by
    simp only [State.supplyView, State.ageStep, mapTable_eq_map, Fin.getElem_fin, Vector.getElem_map,
      SampleSlot.supply, Option.map_map]
    rfl
  rw [held, given, law b]

/-- After a start nothing has been sampled and no unit holds a temperature (R100, R106). -/
theorem State.started_agrees {r : Retained} {changed : RefSet} (act : s.act = Active.start r changed) :
    s.supplyView.Agrees := by
  intro b
  have held : s.supplyView.held b = none := by
    rw [State.supplyView, act]
    exact congrArg WashUnit.supply (Active.start_units r changed b)
  have given : s.supplyView.given = none := by
    rw [State.supplyView, act]
    simp [Active.start, SampleSlot.start, SampleSlot.supply]
  rw [held, given]

/-! ## Every step keeps the law -/

theorem whenPowered_supplyLaw {f : State → State} (law : s.SupplyLaw)
    (hf : s.supplyView.Agrees → (f s).supplyView.Agrees) : (whenPowered s f).SupplyLaw := by
  rw [State.supplyLaw_iff] at law ⊢
  unfold whenPowered
  split
  next hp => exact fun _ => hf (law hp)
  · exact law

/-- Every command completes and keeps the law. -/
theorem exec_supplyLaw (law : s.SupplyLaw) (i : Instr) : ∃ t, exec i s = .next t ∧ t.SupplyLaw := by
  have powered {f : State → State} (hf : s.supplyView.Agrees → (f s).supplyView.Agrees) :
      (whenPowered s f).SupplyLaw := whenPowered_supplyLaw law hf
  have stays {f : State → State} (view : (f s).supplyView = s.supplyView) : (whenPowered s f).SupplyLaw :=
    powered fun agrees => by rwa [view]
  have port {f : State → State} (h : s.ThroughPort (f s)) : (whenPowered s f).SupplyLaw := stays h.supplyView
  have started {t : State} {r : Retained} {changed : RefSet} (act : t.act = Active.start r changed) : t.SupplyLaw :=
    fun _ => State.started_agrees act
  cases h : i.request? with
  | some q =>
    rw [← requestOf_of_request h]
    exact ⟨_, exec_requestOf _ _ _ _ s, port (.frameCompletes _ s _)⟩
  | none =>
    cases i with
    | yardResetEffect =>
      refine ⟨_, rfl, powered fun agrees => ?_⟩
      split
      · exact agrees
      · exact State.started_agrees rfl
    | coldStart =>
      refine ⟨_, rfl, ?_⟩
      split
      · exact started rfl
      · exact law
    | powerReturn =>
      refine ⟨_, rfl, ?_⟩
      split
      · exact started rfl
      · exact law
    | mainPowerLoss =>
      refine ⟨_, rfl, ?_⟩
      unfold State.losePower
      split
      · exact fun hp => by cases hp
      · exact law
    | backupSupplyLoss =>
      refine ⟨_, rfl, ?_⟩
      unfold State.loseBackup
      split
      · exact law
      next off => exact fun hp => absurd hp off
    | requestByteReceived p x err => exact ⟨_, rfl, port (.receiveByte p s x err)⟩
    | interByteTimeout p => exact ⟨_, rfl, port (.gap p s)⟩
    | answerSendComplete p => exact ⟨_, rfl, port (.answerSent p s)⟩
    | scanConversion ch code => exact ⟨_, rfl, powered fun agrees => State.convert_agrees agrees ch code⟩
    | pulseSample m level => exact ⟨_, rfl, stays (s.samplePulse_supplyView m level)⟩
    | lineSample l level => exact ⟨_, rfl, stays (s.sampleLine_supplyView l level)⟩
    | grant => exact ⟨_, rfl, stays s.grantStep_supplyView⟩
    | accountingIntervalClose b => exact ⟨_, rfl, stays (s.closeInterval_supplyView b)⟩
    | phaseTimerTick b => exact ⟨_, rfl, stays (s.phaseTick_supplyView b)⟩
    | phaseTimerExpiry b => exact ⟨_, rfl, stays (s.phaseExpiry_supplyView b)⟩
    | handoverTimerExpiry b =>
      exact ⟨_, rfl, stays (s.expire_supplyView b _ (stopped := { s.act.units[b] with handoverTimer := none }) rfl _ _)⟩
    | reEntryTimerExpiry b =>
      exact ⟨_, rfl, stays (s.expire_supplyView b _ (stopped := { s.act.units[b] with reEntryTimer := none }) rfl _ _)⟩
    | holdTimerExpiry b =>
      exact ⟨_, rfl, stays (s.expire_supplyView b _ (stopped := { s.act.units[b] with holdTimer := none }) rfl _ _)⟩
    | washHold b => exact ⟨_, rfl, stays (s.holdStep_supplyView b)⟩
    | washResume b => exact ⟨_, rfl, stays (s.resumeStep_supplyView b)⟩
    | fillStoppedMark => exact ⟨_, rfl, stays s.stoppedStep_supplyView⟩
    | sweepTick b => exact ⟨_, rfl, stays (s.sweepStep_supplyView b)⟩
    | releaseTimerCheck => exact ⟨_, rfl, stays s.timerCheck_supplyView⟩
    | releaseLapse r => exact ⟨_, rfl, stays (s.lapseStep_supplyView r)⟩
    | yardClockSecond =>
      refine ⟨_, rfl, ?_⟩
      unfold State.clockSecond
      split <;> exact law
    | ageMillisecond => exact ⟨_, rfl, powered State.ageStep_agrees⟩
    | _ => cases h

/-- Settles O12: a step runs the command at the front of the queue, and every command keeps the law
(`exec_supplyLaw`). -/
theorem stepKeepsSupplyLaw : Obligations.StepKeepsSupplyLaw := by
  intro s t law hstep
  unfold step at hstep
  split at hstep
  · cases hstep
    exact law
  next i rest _ =>
    obtain ⟨u, hu, kept⟩ := exec_supplyLaw (s := { s with pending := rest }) law i
    cases hu.symm.trans hstep
    exact kept

end Sys2Proof.Machine
end

section
/-! # A sample of a pulse input (R85, R107, R108) -/

namespace Sys2Proof.Machine

variable {s : State}

/-- A sample of the accepted level clears the run count (R107). -/
theorem Filter.sample_same {f : Filter} (n : Nat) {level : Level} (same : level = f.accepted) :
    f.sample n level = (⟨f.accepted, 0⟩, false) := if_pos same

/-- A sample of the other level is counted while the count stays below N (R107). -/
theorem Filter.sample_counted {f : Filter} {n : Nat} {level : Level} (new : level ≠ f.accepted) (few : f.run + 1 < n) :
    f.sample n level = (⟨f.accepted, f.run + 1⟩, false) := (if_neg new).trans (if_neg (by omega))

/-- The N-th sample of the other level is accepted (R107). -/
theorem Filter.sample_accepted {f : Filter} {n : Nat} {level : Level} (new : level ≠ f.accepted)
    (enough : n ≤ f.run + 1) : f.sample n level = (⟨level, 0⟩, true) := (if_neg new).trans (if_pos enough)

/-- A commissioning total in range counts modulo 65,536 (R108). -/
theorem totalOn_eq {n : Nat} (h : n ≤ 65535) : totalOn n = (n + 1) % 65536 := by
  unfold totalOn
  split <;> omega

/-- A sample that accepts no rising level writes the filter alone (R107). -/
theorem State.samplePulse_kept {m : Position} {level : Level} {f : Filter} {changed : Bool}
    (sampled : (s.act.pulses[m.index]).filter.sample (s.ret.pulseFilter m) level = (f, changed))
    (still : ¬ (changed = true ∧ level = .high)) :
    s.samplePulse m level = s.setPulse m { s.act.pulses[m.index] with filter := f } := by
  unfold State.samplePulse
  simp only [sampled]
  exact if_neg still

/-- An accepted rising level counts one pulse and is handed on (R108). -/
theorem State.samplePulse_rising {m : Position} {f : Filter}
    (sampled : (s.act.pulses[m.index]).filter.sample (s.ret.pulseFilter m) .high = (f, true)) :
    s.samplePulse m .high = (s.setPulse m ⟨f, totalOn (s.act.pulses[m.index]).total⟩).handPulse m := by
  unfold State.samplePulse
  simp only [sampled]
  exact if_pos (by simp)

/-- A pulse is discarded at a bay that runs nothing (R85). -/
theorem State.bayPulse_discarded {b : Bay} (h : s.runningAt b = none) : s.bayPulse b = s := by
  simp only [State.bayPulse, h]

/-- A pulse joins the interval of a RUNNING compartment, up to 1,000 (R85). -/
theorem State.bayPulse_counted {b : Bay} {w : RunningWash} (h : s.runningAt b = some w) : s.bayPulse b
    = s.setUnit b { s.act.units[b] with intervalCount := min ((s.act.units[b]).intervalCount + 1) 1000 } := by
  simp only [State.bayPulse, h]

/-- Settles O41: the filter's three cases, and at a bay the pulse of an accepted rising level discarded or counted
(`State.bayPulse_discarded`, `State.bayPulse_counted`). -/
theorem pulseSampleFilteredAndCounted : Obligations.PulseSampleFilteredAndCounted := by
  intro m level s power c kept
  rw [exec_pulseSample power]
  refine ⟨fun same => ?_, fun new few => ?_, fun new enough low => ?_, ?_⟩
  · rw [State.samplePulse_kept (Filter.sample_same _ same) (by simp)]
    rfl
  · rw [State.samplePulse_kept (Filter.sample_counted new few) (by simp)]
    rfl
  · subst low
    rw [State.samplePulse_kept (Filter.sample_accepted new enough) (by simp)]
    rfl
  · rintro b rfl rfl low enough t inRange
    have new : Level.high ≠ c.filter.accepted := by simp [low]
    have rising : s.samplePulse (.bay b) .high = t.bayPulse b := by
      rw [State.samplePulse_rising (Filter.sample_accepted new enough), totalOn_eq inRange]
      rfl
    have same : t.runningAt b = s.runningAt b := rfl
    rw [rising]
    refine ⟨fun idle => ?_, fun r x p ph runs => ?_⟩
    · rw [State.bayPulse_discarded (same.trans idle.runningAt)]
    · rw [State.bayPulse_counted (same.trans runs.runningAt)]
      rfl

end Sys2Proof.Machine
end

section
/-! # What leaves the setpoint outputs alone (R111, R114)

The law compares two things: a bay's outputs, and its park value. A grant, a leaving of RUNNING, a sweep tick, a write
of a park value and a start write one of them; every other operation leaves both as they are, and that is one lemma an
operation. -/

namespace Sys2Proof.Machine

variable {s t : State}

/-- What the law reads: each bay's outputs and its park value. -/
structure OutputsView where
  outputs : Bay → BayOutputs
  park : Bay → Nat

def State.outputsView (s : State) : OutputsView := ⟨fun b => s.act.outputs[b], s.ret.parkValue⟩

/-- The view is read off the outputs and the settings. -/
theorem State.outputsView_congr (outputs : t.act.outputs = s.act.outputs) (settings : t.ret.settings = s.ret.settings) :
    t.outputsView = s.outputsView := by
  unfold State.outputsView Retained.parkValue
  rw [outputs, settings]

section

variable (s) (b : Bay) (r : RecordRef) (c : Compartment)

/-! ## Named updates and hand-overs -/

@[simp] theorem State.setRecord_outputsView (o : Option Compartment) :
    (s.setRecord r o).outputsView = s.outputsView := rfl
@[simp] theorem State.setUnit_outputsView (u : WashUnit) : (s.setUnit b u).outputsView = s.outputsView := rfl
@[simp] theorem State.setArbiter_outputsView (a : Arbiter) : (s.setArbiter a).outputsView = s.outputsView := rfl
@[simp] theorem State.setFillUnit_outputsView (u : FillUnit) : (s.setFillUnit u).outputsView = s.outputsView := rfl
@[simp] theorem State.setLine_outputsView (l : Line) (f : Filter) : (s.setLine l f).outputsView = s.outputsView := rfl
@[simp] theorem State.addPending_outputsView (p : Port) (l : Line) :
    (s.addPending p l).outputsView = s.outputsView := rfl
@[simp] theorem State.dropPending_outputsView (p : Port) (l : Line) :
    (s.dropPending p l).outputsView = s.outputsView := rfl
@[simp] theorem State.openMode_outputsView : s.openMode.outputsView = s.outputsView := rfl
@[simp] theorem State.advanceCertificate_outputsView : s.advanceCertificate.outputsView = s.outputsView := rfl

@[simp] theorem State.changeRecord_outputsView : (s.changeRecord r c).outputsView = s.outputsView := by
  obtain ⟨v, frame⟩ := s.changeRecord_frame r c
  rw [frame]
  rfl

@[simp] theorem State.transition_outputsView (expected : List CState) (f : Compartment → Compartment) :
    (s.transition r expected f).outputsView = s.outputsView := by
  obtain ⟨c, -, -, h⟩ | ⟨-, h⟩ := s.transition_cases r expected f
  · rw [h, State.changeRecord_outputsView]
  · rw [h]

variable {s} in
/-- A fold of moves that each leave the view as it is. -/
theorem State.foldl_outputsView {α : Type} {f : State → α → State}
    (hf : ∀ (s : State) x, (f s x).outputsView = s.outputsView) (xs : List α) (s : State) :
    (xs.foldl f s).outputsView = s.outputsView := by
  induction xs generalizing s with
  | nil => rfl
  | cons x xs ih => exact (ih (f s x)).trans (hf s x)

/-! ## The wash cycle, outside its phases -/

@[simp] theorem State.enterQueued_outputsView (p : Progress) (ph : Phase) :
    (s.enterQueued b r c p ph).outputsView = s.outputsView := by
  simp [State.enterQueued]

theorem State.phaseTick_outputsView : (s.phaseTick b).outputsView = s.outputsView := by
  unfold State.phaseTick
  split
  · rfl
  · split <;> rfl

theorem State.resumeStep_outputsView : (s.resumeStep b).outputsView = s.outputsView := by
  unfold State.resumeStep
  simp only
  split
  · rfl
  · split
    · rfl
    · split
      · rfl
      · split_ifs
        · simp
        · split <;> simp
        · rfl

/-! ## Lapses, the clock, pulses and the supply temperature -/

@[simp] theorem State.lapse_outputsView : (s.lapse r).outputsView = s.outputsView := s.transition_outputsView r _ _

@[simp] theorem State.lapseAll_outputsView : s.lapseAll.outputsView = s.outputsView :=
  State.foldl_outputsView (fun s r => s.lapse_outputsView r) _ s

theorem State.timerCheck_outputsView : s.timerCheck.outputsView = s.outputsView := by
  unfold State.timerCheck
  split <;> rfl

theorem State.lapseStep_outputsView : (s.lapseStep r).outputsView = s.outputsView := by
  unfold State.lapseStep
  split
  · exact State.lapse_outputsView _ r
  · rfl

theorem State.clockSecond_outputsView : s.clockSecond.outputsView = s.outputsView := by
  unfold State.clockSecond
  split <;> rfl

theorem State.rackPulse_outputsView : s.rackPulse.outputsView = s.outputsView := by
  have joined (b : Bool) : (if b then s.joinOverfill else s).outputsView = s.outputsView := by split <;> rfl
  unfold State.rackPulse
  split
  · rfl
  · split
    · rfl
    · split
      · simp only
        split <;> simp [joined]
      · rfl

theorem State.stoppedStep_outputsView : s.stoppedStep.outputsView = s.outputsView := by
  unfold State.stoppedStep
  split
  · simp only
    split <;> simp
  · rfl

theorem State.bayPulse_outputsView : (s.bayPulse b).outputsView = s.outputsView := by
  unfold State.bayPulse
  simp only
  split <;> rfl

theorem State.samplePulse_outputsView (m : Position) (level : Level) :
    (s.samplePulse m level).outputsView = s.outputsView := by
  unfold State.samplePulse
  simp only
  split
  · cases m with
    | bay b => exact State.bayPulse_outputsView _ b
    | rack => exact State.rackPulse_outputsView _
  · rfl

theorem State.supplySample_outputsView (sample : Option Nat) : (s.supplySample sample).outputsView = s.outputsView := by
  unfold State.supplySample
  split <;> rfl

/-! ## Lines -/

variable (l : Line)

@[simp] theorem State.lineBecomesActive_outputsView (e : Route) :
    (s.lineBecomesActive l e).outputsView = s.outputsView := by
  unfold State.lineBecomesActive
  split
  · rfl
  · rw [State.lineNotices_eq, State.lineAction_eq]
    rfl

theorem State.sampleLine_outputsView (level : Level) : (s.sampleLine l level).outputsView = s.outputsView := by
  unfold State.sampleLine
  simp only
  split
  · split
    · simp
    · rfl
  · rfl

theorem State.reroute_outputsView (e : Route) : (s.reroute l e).outputsView = s.outputsView := by
  unfold State.reroute
  simp only [State.trimPending_eq]
  split
  · exact State.lineBecomesActive_outputsView _ l e
  · rfl

end

end Sys2Proof.Machine
end

section
/-! # What the owners leave alone of the setpoint outputs -/

namespace Sys2Proof.Machine

variable {s : State}

section

variable (x : Named)

@[simp] theorem setIntentOn_outputsView (intent : Nat) : (setIntentOn x intent s).1.outputsView = s.outputsView := by
  unfold setIntentOn
  split
  · rfl
  · split
    · rfl
    · split
      · rfl
      · rfl
      · rfl
      · simp only [State.retarget]
        split <;> simp

@[simp] theorem inspectPassOn_outputsView (inspector : Nat) :
    (inspectPassOn x inspector s).1.outputsView = s.outputsView := by
  unfold inspectPassOn
  split_ifs
  · rfl
  · rfl
  · split <;> simp

@[simp] theorem inspectFailOn_outputsView (flag : Nat) : (inspectFailOn x flag s).1.outputsView = s.outputsView := by
  unfold inspectFailOn
  split_ifs <;> simp

/-- FILL-START lapses, opens a fill, or is refused (R133, R134). -/
@[simp] theorem fillStartOn_outputsView (cargo preset : Nat) :
    (fillStartOn x cargo preset s).1.outputsView = s.outputsView := by
  unfold fillStartOn State.openFill
  split
  · rfl
  · split
    · rfl
    · split
      · split_ifs <;> simp
      · rfl

@[simp] theorem fillEndOn_outputsView (litres : Nat) : (fillEndOn x litres s).1.outputsView = s.outputsView := by
  unfold fillEndOn
  split <;> simp

@[simp] theorem fillAbortOn_outputsView : (fillAbortOn x s).1.outputsView = s.outputsView := by
  unfold fillAbortOn
  split
  · split <;> simp
  · rfl

@[simp] theorem startWashOn_outputsView (b : Bay) : (startWashOn b x s).1.outputsView = s.outputsView := by
  unfold startWashOn
  split_ifs
  · rfl
  · rfl
  · rfl
  · split <;> simp

@[simp] theorem phaseGoOn_outputsView : (phaseGoOn x s).1.outputsView = s.outputsView := by
  unfold phaseGoOn
  split
  · split <;> simp
  · rfl

end

@[simp] theorem resumeAt_outputsView (pos : Position) : (resumeAt pos s).1.outputsView = s.outputsView := by
  unfold resumeAt
  split <;> rfl

@[simp] theorem State.admitTanker_outputsView (s : State) (i : Slot) (token : List Byte)
    (cs : List (Nat × List ClassNo)) : (s.admitTanker i token cs).outputsView = s.outputsView := by
  rw [State.admitTanker, State.admitRecords_eq_foldl]
  exact State.foldl_outputsView (fun s x => s.changeRecord_outputsView _ _) _ _

section

variable (p : Port) (body : List Byte)

theorem ownAckLine_outputsView : (ownAckLine p body s).1.outputsView = s.outputsView := by
  unfold ownAckLine
  repeat' split
  all_goals simp

theorem ownResume_outputsView : (ownResume p body s).1.outputsView = s.outputsView := by
  unfold ownResume
  repeat' split
  all_goals simp

theorem ownAdmit_outputsView : (ownAdmit p body s).1.outputsView = s.outputsView := by
  unfold ownAdmit
  repeat' split
  all_goals simp

theorem ownDepart_outputsView : (ownDepart p body s).1.outputsView = s.outputsView := by
  unfold ownDepart
  simp only [State.depart_eq]
  repeat' split
  all_goals rfl

theorem ownSetIntent_outputsView : (ownSetIntent p body s).1.outputsView = s.outputsView := by
  unfold ownSetIntent
  repeat' split
  all_goals simp

theorem ownEmptied_outputsView : (ownEmptied p body s).1.outputsView = s.outputsView := by
  unfold ownEmptied
  repeat' split
  all_goals simp

theorem ownVoidRelease_outputsView : (ownVoidRelease p body s).1.outputsView = s.outputsView := by
  unfold ownVoidRelease
  repeat' split
  all_goals simp

theorem ownStartWash_outputsView : (ownStartWash p body s).1.outputsView = s.outputsView := by
  unfold ownStartWash
  repeat' split
  all_goals simp

theorem ownPhaseGo_outputsView : (ownPhaseGo p body s).1.outputsView = s.outputsView := by
  unfold ownPhaseGo
  repeat' split
  all_goals simp

theorem ownInspectPass_outputsView : (ownInspectPass p body s).1.outputsView = s.outputsView := by
  unfold ownInspectPass
  repeat' split
  all_goals simp

theorem ownInspectFail_outputsView : (ownInspectFail p body s).1.outputsView = s.outputsView := by
  unfold ownInspectFail
  repeat' split
  all_goals simp

theorem ownFillStart_outputsView : (ownFillStart p body s).1.outputsView = s.outputsView := by
  unfold ownFillStart
  repeat' split
  all_goals simp

theorem ownFillEnd_outputsView : (ownFillEnd p body s).1.outputsView = s.outputsView := by
  unfold ownFillEnd
  repeat' split
  all_goals simp

theorem ownFillAbort_outputsView : (ownFillAbort p body s).1.outputsView = s.outputsView := by
  unfold ownFillAbort
  repeat' split
  all_goals simp

theorem ownWriteRoute_outputsView : (ownWriteRoute p body s).1.outputsView = s.outputsView := by
  unfold ownWriteRoute
  split
  · split
    · split
      · rfl
      · exact s.reroute_outputsView ..
    · rfl
  · rfl

theorem ownOpenYard_outputsView : (ownOpenYard p body s).1.outputsView = s.outputsView := by
  unfold ownOpenYard
  split <;> simp

theorem ownWriteClass_outputsView : (ownWriteClass p body s).1.outputsView = s.outputsView := by
  unfold ownWriteClass
  repeat' split
  all_goals rfl

theorem ownWriteProgram_outputsView : (ownWriteProgram p body s).1.outputsView = s.outputsView := by
  unfold ownWriteProgram
  repeat' split
  all_goals rfl

theorem ownWriteFollow_outputsView : (ownWriteFollow p body s).1.outputsView = s.outputsView := by
  unfold ownWriteFollow
  repeat' split
  all_goals rfl

theorem ownReadRoute_outputsView : (ownReadRoute p body s).1.outputsView = s.outputsView := by
  unfold ownReadRoute
  repeat' split
  all_goals rfl

theorem ownSetClock_outputsView : (ownSetClock p body s).1.outputsView = s.outputsView := by
  unfold ownSetClock
  repeat' split
  all_goals rfl

theorem ownDock_outputsView : (ownDock p body s).1.outputsView = s.outputsView := by
  unfold ownDock dockAt
  repeat' split
  all_goals rfl

theorem ownUndock_outputsView : (ownUndock p body s).1.outputsView = s.outputsView := by
  unfold ownUndock
  repeat' split
  all_goals rfl

/-- The kinds whose owners write neither the outputs nor a setting: all but ABORT-WASH, CANCEL-WASH and
WRITE-SETTING. -/
def Kind.besideTheOutputs : Kind → Bool
  | .abortWash | .cancelWash | .writeSetting => false
  | _ => true

/-- The owner of such a kind leaves the view as it is. -/
theorem owner_outputsView {k : Kind} (hk : k.besideTheOutputs = true) :
    (owner k p body s).1.outputsView = s.outputsView := by
  by_cases hr : k.reports = true
  · rw [owner_of_reports p body hr]
  cases k <;> try exact absurd rfl hr
  case abortWash | cancelWash | writeSetting => cases hk
  case events | yardReset => rfl
  case ackLine => exact ownAckLine_outputsView p body
  case resume => exact ownResume_outputsView p body
  case admitTanker => exact ownAdmit_outputsView p body
  case depart => exact ownDepart_outputsView p body
  case setIntent => exact ownSetIntent_outputsView p body
  case emptied => exact ownEmptied_outputsView p body
  case voidRelease => exact ownVoidRelease_outputsView p body
  case dock => exact ownDock_outputsView p body
  case undock => exact ownUndock_outputsView p body
  case startWash => exact ownStartWash_outputsView p body
  case phaseGo => exact ownPhaseGo_outputsView p body
  case inspectPass => exact ownInspectPass_outputsView p body
  case inspectFail => exact ownInspectFail_outputsView p body
  case fillStart => exact ownFillStart_outputsView p body
  case fillEnd => exact ownFillEnd_outputsView p body
  case fillAbort => exact ownFillAbort_outputsView p body
  case writeClass => exact ownWriteClass_outputsView p body
  case writeProgram => exact ownWriteProgram_outputsView p body
  case writeFollow => exact ownWriteFollow_outputsView p body
  case writeRoute => exact ownWriteRoute_outputsView p body
  case readRoute => exact ownReadRoute_outputsView p body
  case setClock => exact ownSetClock_outputsView p body
  case openYard => exact ownOpenYard_outputsView p body

end

end Sys2Proof.Machine
end

section
/-! # The setpoint outputs where something writes them (R111 to R114) -/

namespace Sys2Proof.Machine

variable {s t : State} {b : Bay} {r : RecordRef} {c : Compartment} {o : BayOutputs}

/-- What the law says of one bay's outputs and its park value. -/
def BayOutputs.Steady (o : BayOutputs) (park : Nat) : Prop :=
  (o.generator = none → o.valve = 0 ∧ o.sweep = park) ∧ ∀ w ∈ o.generator, o.sweep = w.position

theorem BayOutputs.parked_steady (park : Nat) : (BayOutputs.parked park).Steady park :=
  ⟨fun _ => ⟨rfl, rfl⟩, fun _ h => nomatch h⟩

/-- A running sweep stands at its position, whatever the valve and the park value. -/
theorem BayOutputs.steady_of_running {w : Sweep} (running : o.generator = some w) (follows : o.sweep = w.position)
    (park : Nat) : o.Steady park := by
  refine ⟨fun stopped => ?_, fun v hv => ?_⟩
  · cases running.symm.trans stopped
  · cases running.symm.trans hv
    exact follows

/-- A write of a bay's park value moves a stopped sweep there and leaves a running one (R114). -/
theorem BayOutputs.Steady.repark {park : Nat} (h : o.Steady park) (v : Nat) :
    (if o.generator = none then { o with sweep := v } else o).Steady v := by
  obtain ⟨stopped, running⟩ := h
  split
  next still => exact ⟨fun _ => ⟨(stopped still).1, rfl⟩, fun w hw => by cases still.symm.trans hw⟩
  next runs => exact ⟨fun still => absurd still runs, running⟩

/-- Every bay's outputs are as the law says. -/
def State.Steady (s : State) : Prop := ∀ b, (s.outputsView.outputs b).Steady (s.outputsView.park b)

theorem State.steady_iff : s.Steady ↔ ∀ b : Bay, (s.act.outputs[b]).Steady (s.ret.parkValue b) := Iff.rfl

theorem State.outputsLaw_iff : s.OutputsLaw ↔ (s.mainPower = true → s.Steady) := Iff.rfl

/-- A bay's park value after a setting is stored (R174, R175). -/
theorem State.storeSetting_parkValue (s : State) (i : Fin 25) (v : Nat) (b : Bay) :
    (s.storeSetting i v).ret.parkValue b = if i.val = 21 + b.val then v else s.ret.parkValue b :=
  Vector.getElem_set i.isLt _

namespace State.Steady

theorem of_view (h : s.Steady) (view : t.outputsView = s.outputsView) : t.Steady := by
  rwa [State.Steady, view]

theorem setOutputs (h : s.Steady) (steady : o.Steady (s.ret.parkValue b)) : (s.setOutputs b o).Steady := by
  refine State.steady_iff.mpr fun b' => ?_
  rw [State.setOutputs_outputs, table_set]
  split
  next hb => exact hb ▸ steady
  · exact h b'

/-! ## Leaving RUNNING (R114) -/

theorem leaveRunning (h : s.Steady) {shares : Nat} : (s.leaveRunning b shares).Steady :=
  (h.of_view (s.setArbiter_outputsView _)).setOutputs (BayOutputs.parked_steady _)

theorem releaseLoop (h : s.Steady) : (s.releaseLoop b r c).Steady := by
  unfold State.releaseLoop
  split
  · exact h.leaveRunning
  · exact h.of_view (s.setArbiter_outputsView _)
  · exact h

theorem endWash (h : s.Steady) {n : Note} : (s.endWash b r c n).Steady :=
  (h.releaseLoop (b := b) (r := r) (c := c)).of_view (by simp [State.endWash])

theorem stopWash (h : s.Steady) {n : Note} : (s.stopWash r c n).Steady := by
  unfold State.stopWash
  split
  · exact h.endWash
  · exact h.of_view (s.changeRecord_outputsView r _)

theorem completePhase (h : s.Steady) {p : Progress} {ph : Phase} : (s.completePhase b r c p ph).Steady := by
  refine (h.leaveRunning (b := b) (shares := p.sharesHeld)).of_view ?_
  unfold State.completePhase
  simp only
  split <;> simp

theorem expire (h : s.Steady) {runs : Bool} {stopped : WashUnit} {y : CState} {n : Note} :
    (s.expire b runs stopped y n).Steady := by
  have stops : (s.setUnit b stopped).Steady := h.of_view (s.setUnit_outputsView b stopped)
  unfold State.expire
  split
  · split
    · exact stops
    · split
      · exact stops
      · split
        · exact h.endWash
        · exact stops
  · exact h

theorem phaseExpiry (h : s.Steady) : (s.phaseExpiry b).Steady := by
  unfold State.phaseExpiry
  split
  · exact h
  · split
    · exact h.endWash
    · exact h

theorem holdStep (h : s.Steady) : (s.holdStep b).Steady := by
  unfold State.holdStep
  simp only
  split
  · exact h
  next r _ =>
    split
    · exact h
    next c _ =>
      split
      · exact h
      · split
        · exact (h.releaseLoop (b := b) (r := r) (c := c)).of_view (by simp)
        · exact h

theorem closeInterval (h : s.Steady) : (s.closeInterval b).Steady := by
  unfold State.closeInterval
  simp only
  split
  · exact h
  · split_ifs
    · exact h.completePhase
    · exact h.of_view (by simp)
    · exact h

theorem conductivitySample (h : s.Steady) {sample : Option Nat} : (s.conductivitySample b sample).Steady := by
  have sampled (e : Endpoint) : (s.setUnit b ((s.act.units[b]).sampled e s.ret.hysteresis sample)).Steady :=
    h.of_view (s.setUnit_outputsView b _)
  unfold State.conductivitySample
  split
  · exact h
  · split
    · exact h
    · simp only
      split
      · exact (sampled _).completePhase
      · exact (sampled _).of_view (State.setRecord_outputsView ..)

/-- A conductivity sample may complete a phase; the other channels write no output (R96, R104). -/
theorem convert (h : s.Steady) (ch : Probe) (code : Code) : (s.convert ch code).Steady := by
  have slotted : (State.setSlot { s with act := { s.act with scanNext := ch + 1 } } ch
      ((s.act.slots[ch]).converted ch code)).Steady := h.of_view rfl
  unfold State.convert State.deliverSample
  split_ifs
  · exact slotted.of_view (State.supplySample_outputsView ..)
  · exact slotted.of_view (State.setArbiter_outputsView ..)
  · exact slotted.conductivitySample
  · exact h

/-! ## Grants and sweep ticks (R112, R113) -/

theorem takeGrant (h : s.Steady) {e : QueueEntry} {backfill : Bool} {p : Progress} {ph : Phase} :
    (s.takeGrant e backfill c p ph).Steady := by
  have granted : ((s.setArbiter (s.act.arbiter.grantTaken e backfill)).setUnit e.bay
      ((s.act.units[e.bay]).granted (s.ret.meterConstant (.bay e.bay)))).Steady := h.of_view rfl
  exact (granted.setOutputs (BayOutputs.steady_of_running rfl rfl _)).of_view (State.changeRecord_outputsView ..)

theorem grantStep (h : s.Steady) : s.grantStep.Steady := by
  have refused : s.refuseGrant.Steady := h.of_view (s.setArbiter_outputsView _)
  unfold State.grantStep
  split
  · exact refused
  · split
    · exact refused
    · split
      · split
        · exact h.takeGrant
        · exact refused
      · exact refused

theorem sweepStep (h : s.Steady) : (s.sweepStep b).Steady := by
  unfold State.sweepStep
  simp only
  split
  · exact h.setOutputs (BayOutputs.steady_of_running rfl rfl _)
  · exact h

/-! ## Park values and starts (R114, R116, R175) -/

/-- A setting stored with its effect: the park value of the bay it is moves that bay's stopped sweep (R114). -/
theorem storeSetting (h : s.Steady) (i : Fin 25) (v : Nat) : ((s.storeSetting i v).settingEffect i v).Steady := by
  refine State.steady_iff.mpr fun b => ?_
  have outputs : ((s.storeSetting i v).settingEffect i v).act.outputs[b]
      = if i.val = 21 + b.val ∧ (s.act.outputs[b]).generator = none then { s.act.outputs[b] with sweep := v }
        else s.act.outputs[b] := by
    rw [State.settingEffect_eq]
    exact Vector.getElem_ofFn _
  have park : ((s.storeSetting i v).settingEffect i v).ret.parkValue b
      = if i.val = 21 + b.val then v else s.ret.parkValue b := by
    rw [State.settingEffect_eq]
    exact s.storeSetting_parkValue i v b
  rw [outputs, park]
  by_cases hi : i.val = 21 + b.val
  · simp only [hi, true_and, if_true]
    exact (h b).repark v
  · simp only [hi, false_and, if_false]
    exact h b

theorem started {changed : RefSet} (act : s.act = Active.start s.ret changed) : s.Steady := by
  refine State.steady_iff.mpr fun b => ?_
  have parked : s.act.outputs[b] = BayOutputs.parked (s.ret.parkValue b) := by
    rw [act, Active.start_eq]
    exact Vector.getElem_ofFn _
  rw [parked]
  exact BayOutputs.parked_steady _

/-! ## Requests -/

/-- The owner of each kind keeps the outputs steady. -/
theorem owner (h : s.Steady) (k : Kind) (p : Port) (body : List Byte) : (owner k p body s).1.Steady := by
  by_cases hk : k.besideTheOutputs = true
  · exact h.of_view (owner_outputsView p body hk)
  cases k <;> try exact absurd rfl hk
  case abortWash =>
    change (ownAbortWash p body s).1.Steady
    unfold ownAbortWash
    split
    · split
      · exact h
      · split
        · exact h.stopWash
        · exact h
    · exact h
  case cancelWash =>
    change (ownCancelWash p body s).1.Steady
    unfold ownCancelWash
    split
    · split
      · exact h
      · split
        · exact h.stopWash
        · exact h
    · exact h
  case writeSetting =>
    change (ownWriteSetting p body s).1.Steady
    unfold ownWriteSetting
    split
    · split
      · exact h
      · exact h.storeSetting _ _
    · exact h

/-- A port's command keeps the outputs steady. -/
theorem throughPort (h : s.Steady) (through : s.ThroughPort t) : t.Steady := by
  have ports {u v : State} (hu : u.Steady) (same : u.SameButPorts v) : v.Steady :=
    hu.of_view (State.outputsView_congr (by rw [same.act]) (by rw [same.ret]))
  cases through with
  | still same => exact ports h same
  | served u p f before after =>
    have hu := ports h before
    refine ports ?_ after
    obtain same | ⟨k, -, same⟩ := serve_cases p f u <;> rw [same]
    · exact hu
    · exact hu.owner k p f.body

end State.Steady

end Sys2Proof.Machine
end

section
/-! # Every step keeps the law of the setpoint outputs -/

namespace Sys2Proof.Machine

variable {s t : State}

theorem whenPowered_outputsLaw {f : State → State} (law : s.OutputsLaw) (hf : s.Steady → (f s).Steady) :
    (whenPowered s f).OutputsLaw := by
  rw [State.outputsLaw_iff] at law ⊢
  unfold whenPowered
  split
  next hp => exact fun _ => hf (law hp)
  · exact law

/-- Every command completes and keeps the law. -/
theorem exec_outputsLaw (law : s.OutputsLaw) (i : Instr) : ∃ t, exec i s = .next t ∧ t.OutputsLaw := by
  have powered {f : State → State} (hf : s.Steady → (f s).Steady) : (whenPowered s f).OutputsLaw :=
    whenPowered_outputsLaw law hf
  have stays {f : State → State} (view : (f s).outputsView = s.outputsView) : (whenPowered s f).OutputsLaw :=
    powered fun h => h.of_view view
  have port {f : State → State} (h : s.ThroughPort (f s)) : (whenPowered s f).OutputsLaw :=
    powered fun steady => steady.throughPort h
  have started {t : State} {changed : RefSet} (act : t.act = Active.start t.ret changed) : t.OutputsLaw :=
    fun _ => State.Steady.started act
  cases h : i.request? with
  | some q =>
    rw [← requestOf_of_request h]
    exact ⟨_, exec_requestOf _ _ _ _ s, port (.frameCompletes _ s _)⟩
  | none =>
    cases i with
    | yardResetEffect =>
      refine ⟨_, rfl, powered fun steady => ?_⟩
      split
      · exact steady
      · exact State.Steady.started rfl
    | coldStart =>
      refine ⟨_, rfl, ?_⟩
      split
      · exact started rfl
      · exact law
    | powerReturn =>
      refine ⟨_, rfl, ?_⟩
      split
      · exact started rfl
      · exact law
    | mainPowerLoss =>
      refine ⟨_, rfl, ?_⟩
      unfold State.losePower
      split
      · exact fun hp => by cases hp
      · exact law
    | backupSupplyLoss =>
      refine ⟨_, rfl, ?_⟩
      unfold State.loseBackup
      split
      · exact law
      next off => exact fun hp => absurd hp off
    | yardClockSecond =>
      refine ⟨_, rfl, ?_⟩
      unfold State.clockSecond
      split <;> exact law
    | requestByteReceived p x err => exact ⟨_, rfl, port (.receiveByte p s x err)⟩
    | interByteTimeout p => exact ⟨_, rfl, port (.gap p s)⟩
    | answerSendComplete p => exact ⟨_, rfl, port (.answerSent p s)⟩
    | grant => exact ⟨_, rfl, powered fun steady => steady.grantStep⟩
    | accountingIntervalClose b => exact ⟨_, rfl, powered fun steady => steady.closeInterval⟩
    | scanConversion ch code => exact ⟨_, rfl, powered fun steady => steady.convert ch code⟩
    | phaseTimerExpiry b => exact ⟨_, rfl, powered fun steady => steady.phaseExpiry⟩
    | handoverTimerExpiry b | reEntryTimerExpiry b | holdTimerExpiry b =>
      exact ⟨_, rfl, powered fun steady => steady.expire⟩
    | washHold b => exact ⟨_, rfl, powered fun steady => steady.holdStep⟩
    | sweepTick b => exact ⟨_, rfl, powered fun steady => steady.sweepStep⟩
    | phaseTimerTick b => exact ⟨_, rfl, stays (s.phaseTick_outputsView b)⟩
    | washResume b => exact ⟨_, rfl, stays (s.resumeStep_outputsView b)⟩
    | pulseSample m level => exact ⟨_, rfl, stays (s.samplePulse_outputsView m level)⟩
    | lineSample l level => exact ⟨_, rfl, stays (s.sampleLine_outputsView l level)⟩
    | fillStoppedMark => exact ⟨_, rfl, stays s.stoppedStep_outputsView⟩
    | releaseTimerCheck => exact ⟨_, rfl, stays s.timerCheck_outputsView⟩
    | releaseLapse r => exact ⟨_, rfl, stays (s.lapseStep_outputsView r)⟩
    | ageMillisecond => exact ⟨_, rfl, stays rfl⟩
    | _ => cases h

/-- Settles O14: a step runs the command at the front of the queue, and every command keeps the law
(`exec_outputsLaw`). -/
theorem stepKeepsOutputsLaw : Obligations.StepKeepsOutputsLaw := by
  intro s t law hstep
  unfold step at hstep
  split at hstep
  · cases hstep
    exact law
  next i rest _ =>
    obtain ⟨u, hu, kept⟩ := exec_outputsLaw (s := { s with pending := rest }) law i
    cases hu.symm.trans hstep
    exact kept

end Sys2Proof.Machine
end

section
/-! # A sweep tick (R113, R114) -/

namespace Sys2Proof.Machine

variable {s : State} {b : Bay} {w : Sweep} {low high step : Nat}

/-- A step of 0 leaves the sweep where it is (R113). -/
theorem Sweep.ticked_zero : w.ticked low high 0 = w := if_pos rfl

/-- A sweep going UP short of its high goes on by its step (R113). -/
theorem Sweep.ticked_up (moves : step ≠ 0) (up : w.direction = .up) (below : w.position + step < high) :
    w.ticked low high step = ⟨w.position + step, .up⟩ := by
  rw [Sweep.ticked, if_neg moves]
  simp only [up]
  exact if_neg (by omega)

/-- A sweep going UP that reaches its high stands there and turns DOWN (R113). -/
theorem Sweep.ticked_high (moves : step ≠ 0) (up : w.direction = .up) (reached : high ≤ w.position + step) :
    w.ticked low high step = ⟨high, .down⟩ := by
  rw [Sweep.ticked, if_neg moves]
  simp only [up]
  exact if_pos reached

/-- A sweep going DOWN above its low goes on by its step (R113). -/
theorem Sweep.ticked_down (moves : step ≠ 0) (down : w.direction = .down) (above : low + step < w.position) :
    w.ticked low high step = ⟨w.position - step, .down⟩ := by
  rw [Sweep.ticked, if_neg moves]
  simp only [down]
  exact if_neg (by omega)

/-- A sweep going DOWN that reaches its low stands there and turns UP (R113). -/
theorem Sweep.ticked_low (moves : step ≠ 0) (down : w.direction = .down) (reached : w.position ≤ low + step) :
    w.ticked low high step = ⟨low, .up⟩ := by
  rw [Sweep.ticked, if_neg moves]
  simp only [down]
  exact if_pos (by omega)

/-- A stopped generator's timer does not tick (R114). -/
theorem State.sweepStep_stopped (stopped : (s.act.outputs[b]).generator = none) : s.sweepStep b = s := by
  simp only [State.sweepStep, stopped]

/-- A tick of a bay that runs a phase moves its sweep between that phase's ends, and the code with it (R113). -/
theorem State.sweepStep_running {x : RunningWash} (running : (s.act.outputs[b]).generator = some w)
    (runs : s.runningAt b = some x) {w' : Sweep}
    (ticked : w.ticked x.phase.sweepLow x.phase.sweepHigh x.phase.sweepStep = w') :
    s.sweepStep b = s.sweepAt b w'.position w'.direction := by
  subst ticked
  simp only [State.sweepStep, running, runs]
  rfl

/-- Settles O42: a stopped generator does not tick (`State.sweepStep_stopped`), and a running one moves its sweep by the
cases of `Sweep.ticked`. -/
theorem sweepTickMovesTheSweep : Obligations.SweepTickMovesTheSweep := by
  intro b s power
  refine ⟨fun stopped => ?_, fun w r c p ph running runs => ?_⟩
  · rw [exec_sweepTick power, State.sweepStep_stopped stopped]
  have moves {w' : Sweep} (ticked : w.ticked ph.sweepLow ph.sweepHigh ph.sweepStep = w') :
      exec (.sweepTick b) s = .next (s.sweepAt b w'.position w'.direction) := by
    rw [exec_sweepTick power, State.sweepStep_running running runs.runningAt ticked]
  refine ⟨fun zero => moves ?_, fun step up below => moves (Sweep.ticked_up step up below),
    fun step up reached => moves (Sweep.ticked_high step up reached),
    fun step down above => moves (Sweep.ticked_down step down above),
    fun step down reached => moves (Sweep.ticked_low step down reached)⟩
  rw [zero, Sweep.ticked_zero]

end Sys2Proof.Machine
end

section
/-! # A pulse of the rack meter, and the STOPPED update (R108, R135 to R138) -/

namespace Sys2Proof.Machine

variable {s : State} {r : RecordRef} {c : Compartment} {f : Fill}

/-! ## A pulse counted into a fill -/

section

variable {constant capacity n : Nat} {holdEmpty : Bool} (counts : min (f.counted + constant) 999999 = n)

include counts

/-- A pulse by whether it newly reaches the preset and newly passes the capacity (R135, R136, R138). -/
theorem Fill.pulse_eq {reaches overfills : Bool}
    (hr : reaches = true ↔ f.preset * 10 ≤ n ∧ f.marks.presetReached = false)
    (ho : overfills = true ↔ capacity * 10 < n ∧ f.marks.overfill = false) :
    f.pulse constant capacity holdEmpty = ⟨{ f with
      counted := n
      marks := { f.marks with
        presetReached := f.marks.presetReached || reaches
        overfill := f.marks.overfill || overfills
        stopped := f.marks.stopped || (overfills && holdEmpty) } }, reaches || overfills, overfills⟩ := by
  have reached : (decide (f.preset * 10 ≤ n) && !f.marks.presetReached) = reaches := by
    rw [Bool.eq_iff_iff, hr]
    simp
  have overfilled : (decide (capacity * 10 < n) && !f.marks.overfill) = overfills := by
    rw [Bool.eq_iff_iff, ho]
    simp
  simp only [Fill.pulse, maxCounted, counts, reached, overfilled]

/-- Short of the preset and within the capacity a pulse only counts (R135). -/
theorem Fill.pulse_counts (short : ¬ (f.preset * 10 ≤ n ∧ f.marks.presetReached = false))
    (within : ¬ (capacity * 10 < n ∧ f.marks.overfill = false)) :
    f.pulse constant capacity holdEmpty = ⟨{ f with counted := n }, false, false⟩ := by
  rw [Fill.pulse_eq counts (reaches := false) (overfills := false) (by simpa using short) (by simpa using within)]
  simp

/-- The pulse that reaches the preset marks it (R136). -/
theorem Fill.pulse_reaches (reaches : f.preset * 10 ≤ n ∧ f.marks.presetReached = false)
    (within : ¬ (capacity * 10 < n ∧ f.marks.overfill = false)) : f.pulse constant capacity holdEmpty
      = ⟨{ f with counted := n, marks := { f.marks with presetReached := true } }, true, false⟩ := by
  rw [Fill.pulse_eq counts (reaches := true) (overfills := false) (by simpa using reaches) (by simpa using within)]
  simp

/-- The pulse that passes the capacity marks it, with STOPPED where it finds the hold set empty (R137, R138). -/
theorem Fill.pulse_overfills (overflows : capacity * 10 < n ∧ f.marks.overfill = false) :
    f.pulse constant capacity holdEmpty = ⟨{ f with
      counted := n
      marks := { f.marks with
        overfill := true
        presetReached := f.marks.presetReached || decide (f.preset * 10 ≤ n)
        stopped := f.marks.stopped || holdEmpty } }, true, true⟩ := by
  have newly (x y : Bool) : (x || (y && !x)) = (x || y) := by cases x <;> simp
  rw [Fill.pulse_eq counts (reaches := decide (f.preset * 10 ≤ n) && !f.marks.presetReached) (overfills := true)
    (by simp) (by simpa using overflows), newly]
  simp

end

/-! ## The pulse at the rack fill unit -/

/-- An idle rack fill unit discards a pulse (R135). -/
theorem State.rackPulse_idle (idle : s.act.fillUnit.active = none) : s.rackPulse = s := by
  simp only [State.rackPulse, idle]

section

variable (active : s.act.fillUnit.active = some r) (record : s.ret.pool[r] = some c)

include active record

/-- A pulse is discarded once the compartment has left FILLING (R135). -/
theorem State.rackPulse_left (left : c.state ≠ .filling) : s.rackPulse = s := by
  have found : s.record r = some c := record
  simp only [State.rackPulse, active, found]
  split
  next filling _ => exact absurd filling left
  · rfl

/-- A pulse of a FILLING compartment: its fill counted on, OVERFILL joining the hold set, and a new mark handed on
(R135, R136, R138). -/
theorem State.rackPulse_filling (filling : c.state = .filling) (fill : c.fill = some f) {x : Counted}
    (pulse : f.pulse (s.ret.meterConstant .rack) c.capacity (!(s.hold .rack).nonEmpty) = x) :
    s.rackPulse = if x.marked then
        (if x.overfilled then s.joinOverfill else s).changeRecord r { c with fill := some x.fill }
      else (if x.overfilled then s.joinOverfill else s).setRecord r (some { c with fill := some x.fill }) := by
  have found : s.record r = some c := record
  simp only [State.rackPulse, active, found, filling, fill, pulse]

end

/-! ## The STOPPED update -/

/-- A transition request is taken in a state it expects (R7). -/
theorem State.transition_taken {expected : List CState} {g : Compartment → Compartment} (record : s.record r = some c)
    (meets : c.state ∈ expected) : s.transition r expected g = s.changeRecord r (g c) := by
  simp [State.transition, record, meets]

/-- A transition request that finds another state changes nothing (R7). -/
theorem State.transition_refused {expected : List CState} {g : Compartment → Compartment}
    (record : s.record r = some c) (other : c.state ∉ expected) : s.transition r expected g = s := by
  simp [State.transition, record, other]

/-- The rack fill unit once its STOPPED update has reached the yard table (R137). -/
def State.stopSent (s : State) : State := s.setFillUnit { s.act.fillUnit with stopDue := false }

/-- A STOPPED update marks a compartment that is still FILLING (R137). -/
theorem State.stoppedStep_due (due : s.act.fillUnit.stopDue = true) (active : s.act.fillUnit.active = some r) :
    s.stoppedStep = s.stopSent.transition r [.filling] Compartment.stopped := by
  simp only [State.stoppedStep, due, if_true, State.stopSent, active]

/-- A STOPPED update of a unit become idle names no compartment. -/
theorem State.stoppedStep_idle (due : s.act.fillUnit.stopDue = true) (idle : s.act.fillUnit.active = none) :
    s.stoppedStep = s.stopSent := by
  simp only [State.stoppedStep, due, if_true, State.stopSent, idle]

/-! ## Both as commands -/

/-- A pulse of the rack meter is counted in its commissioning total and handed to the rack fill unit (R108). -/
theorem State.samplePulse_rack (low : (s.act.pulses[(4 : Fin 5)]).filter.accepted = .low)
    (enough : s.ret.pulseFilter .rack ≤ (s.act.pulses[(4 : Fin 5)]).filter.run + 1)
    (inRange : (s.act.pulses[(4 : Fin 5)]).total ≤ 65535) : s.samplePulse .rack .high
      = (s.setPulse .rack ⟨⟨.high, 0⟩, ((s.act.pulses[(4 : Fin 5)]).total + 1) % 65536⟩).rackPulse := by
  rw [State.samplePulse_rising (Filter.sample_accepted (fun same => Level.noConfusion (same.trans low)) enough),
    ← totalOn_eq inRange]
  rfl

/-- Settles O49: a counted pulse is `State.rackPulse_filling` by the cases of `Fill.pulse`, and the STOPPED update the
transition request of `State.stoppedStep_due`. -/
theorem rackPulseCountsTheFill : Obligations.RackPulseCountsTheFill := by
  intro s power ch rack t
  refine ⟨fun low enough inRange => ?_, fun still => ?_, fun due => ?_⟩
  · have rising : exec (.pulseSample .rack .high) s = .next t.rackPulse := by
      rw [exec_pulseSample power, State.samplePulse_rack low enough inRange]
      rfl
    rw [rising]
    refine ⟨fun idle => ?_, fun r c active record => ⟨fun left => ?_, fun filling f fill => ?_⟩⟩
    · rw [State.rackPulse_idle (s := t) idle]
    · rw [State.rackPulse_left (s := t) active record left]
    intro counted reaches overflows
    have pulsed {x : Counted} (pulse : f.pulse (s.ret.meterConstant .rack) c.capacity (!rack.nonEmpty) = x) :=
      State.rackPulse_filling (s := t) active record filling fill pulse
    refine ⟨fun short within => ?_, fun reached within => ?_, fun overfilled => ?_⟩
    · rw [pulsed (Fill.pulse_counts rfl short within)]
      rfl
    · rw [pulsed (Fill.pulse_reaches rfl reached within)]
      rfl
    · rw [pulsed (Fill.pulse_overfills rfl overfilled)]
      rfl
  · rw [exec_fillStoppedMark power, State.stoppedStep, if_neg (by simp [still])]
  rw [exec_fillStoppedMark power]
  refine ⟨fun idle => ?_, fun r c active record => ⟨fun left => ?_, fun filling f fill => ?_⟩⟩
  · rw [State.stoppedStep_idle due idle]
    rfl
  · rw [State.stoppedStep_due due active, State.transition_refused (s := s.stopSent) record (by simpa using left)]
    rfl
  · have marked : c.stopped = { c with fill := some { f with marks := { f.marks with stopped := true } } } := by
      rw [Compartment.stopped, show c.fill = some f from fill]
      rfl
    rw [State.stoppedStep_due due active, State.transition_taken (s := s.stopSent) record (by simp [filling]), marked]
    rfl

end Sys2Proof.Machine
end

section
/-! # Losing a supply (R116, R167 to R169) -/

namespace Sys2Proof.Machine

variable {s : State}

/-- Settles O59: main power is lost where there is some, and the backup supply's loss matters where there is none. -/
theorem losingASupply : Obligations.LosingASupply := by
  intro s
  have main : exec .mainPowerLoss s = .next s.losePower := rfl
  have backup : exec .backupSupplyLoss s = .next s.loseBackup := rfl
  refine ⟨fun on => ?_, fun off => ?_, fun off => ?_, fun on => ?_⟩
  · rw [main, State.losePower, if_pos on]
    rfl
  · rw [main, State.losePower, if_neg (by simp [off])]
  · rw [backup, State.loseBackup, if_neg (by simp [off])]
  · rw [backup, State.loseBackup, if_pos on]

end Sys2Proof.Machine
end

section
/-! # Inspection and the certificates (R119 to R124, R127, R144) -/

namespace Sys2Proof.Machine

variable {s : State}

/-- A position's request about a compartment it names, taken in OPEN, is answered by its owner (R16, R165). -/
theorem exec_positionNamed {t : State} {pos : Position} (ready : s.Ready pos.port) (hopen : s.IsOpen) {k : Kind}
    {e : Entry} (he : catalogue pos.port k = some e) (tag : Byte) {body : List Byte}
    (hl : e.lengthOk body.length = true) (h240 : body.length ≤ 240) {n : Nat} {x : Named}
    (hx : s.nameBound pos n = .ok x) {r : Reply} (ho : owner k pos.port body s = (t, r)) :
    exec (requestOf k pos.port tag body) s = .next (t.replies pos.port k tag r.code r.body) :=
  exec_owned ready k tag body h240 (commonCheck_isOpen hopen he hl (fun _ => State.bound_of_nameBound hx)) ho

/-! ## INSPECT-PASS (R119 to R121, R124) -/

/-- An inspector code of 1 to 9999 passes a WASHED compartment with an intent: its release is written as the counter
goes on (R121). -/
theorem inspectPassOn_taken {x : Named} {inspector : Nat} (inRange : ¬ (inspector = 0 ∨ 9999 < inspector))
    (washed : x.record.state = .washed) {k : ClassNo} (intent : x.record.intent = some k) {rel : Release}
    (hrel : s.ret.newRelease k inspector = rel) :
    inspectPassOn x inspector s =
      (s.advanceCertificate.changeRecord x.ref { x.record with state := .released, release := some rel },
        okay (byte3 rel.certificate ++ byte1 (classNumber k) ++ byte4 rel.deadline)) := by
  subst hrel
  rw [inspectPassOn, if_neg inRange, if_neg (not_not_intro washed), intent]

/-- The release of a pass, its lifetime in seconds (R121, R124). -/
theorem Retained.newRelease_eq (r : Retained) (k : ClassNo) (inspector : Nat) :
    r.newRelease k inspector =
      ⟨r.certificate, k, r.clock, min (r.clock + 3600 * r.releaseLifetime) 4294967295, inspector⟩ := by
  rw [Nat.mul_comm]
  rfl

/-- Settles O43: the refusals are `inspectPassOn`'s in order, and `inspectPassOn_taken` writes the release. -/
theorem inspectPassReleases : Obligations.InspectPassReleases := by
  intro b tag n i1 i2 s x ready hopen hx inspector answers
  have answered {t : State} {r : Reply} (ho : inspectPassOn x inspector s = (t, r)) :
      exec (.inspectPass (.bay b) tag [n, i1, i2]) s = .next (t.replies (.bay b) .inspectPass tag r.code r.body) :=
    exec_positionNamed (k := .inspectPass) (pos := .bay b) ready hopen rfl tag rfl (by simp) hx
      (by simp only [owner, Position.port, ownInspectPass, hx]; exact ho)
  refine ⟨fun out => answered (r := refuse .range) (if_pos out), fun low high => ?_⟩
  have inRange : ¬ (inspector = 0 ∨ 9999 < inspector) := by omega
  exact ⟨fun other => answered (r := refuse .state) ((if_neg inRange).trans (if_pos other)), fun washed k intent =>
    answered (inspectPassOn_taken inRange washed intent (s.ret.newRelease_eq k inspector))⟩

/-! ## INSPECT-FAIL (R122, R123) -/

/-- A compartment sent back by the inspector, with the demand and the program it then has (R122, R123). -/
def Compartment.sentBack (c : Compartment) (d : Demand) (program : Option ProgramNo) : Compartment :=
  { c with state := .dirty, note := some .inspectFailed, summary := none, demand := some d, program := program }

section

variable {r : Retained} {c : Compartment} {d : Demand} (demand : c.demand = some d)

include demand

/-- Without the upgrade a failed compartment keeps its demand and program (R122). -/
theorem Retained.failed_kept : r.failed c false = c.sentBack d c.program := by
  simp [Retained.failed, Compartment.sentBack, demand]

/-- The upgrade of a demand for a wash keeps its program (R123). -/
theorem Retained.failed_upgraded (asks : d ≠ .noWash) : r.failed c true = c.sentBack .deep c.program := by
  have : asksWash c.demand = true := by
    rw [demand, asksWash_iff]
    cases d <;> simp_all
  simp [Retained.failed, Compartment.sentBack, this]

/-- The upgrade of a demand of NONE takes a program (R123). -/
theorem Retained.failed_upgraded_noWash (unwashed : d = .noWash) {program : Option ProgramNo}
    (takes : r.upgradeProgram c = program) : r.failed c true = c.sentBack .deep program := by
  simp [Retained.failed, Compartment.sentBack, demand, unwashed, asksWash, takes]

end

/-- A WASHED compartment fails with a flag of 0 or 1, and is answered its demand and program (R122, R123). -/
theorem inspectFailOn_taken {x : Named} {flag : Nat} (inRange : flag ≤ 1) (washed : x.record.state = .washed)
    {d : Demand} {program : Option ProgramNo}
    (hc : s.ret.failed x.record (flag == 1) = x.record.sentBack d program) :
    inspectFailOn x flag s = (s.changeRecord x.ref (x.record.sentBack d program),
      okay (byte1 d.code ++ byte1 (programNumber program))) := by
  rw [inspectFailOn, if_neg (by omega), if_neg (not_not_intro washed), hc]
  rfl

/-- Settles O44: the refusals are `inspectFailOn`'s in order, and each row of R123's table is one of the lemmas about
`Retained.failed`. -/
theorem inspectFailSendsBack : Obligations.InspectFailSendsBack := by
  intro b tag n flag s x ready hopen hx answers failed
  have answered {t : State} {r : Reply} (ho : inspectFailOn x flag.toNat s = (t, r)) :
      exec (.inspectFail (.bay b) tag [n, flag]) s = .next (t.replies (.bay b) .inspectFail tag r.code r.body) :=
    exec_positionNamed (k := .inspectFail) (pos := .bay b) ready hopen rfl tag rfl (by simp) hx
      (by simp only [owner, Position.port, ownInspectFail, hx]; exact ho)
  refine ⟨fun out => answered (r := refuse .range) (if_pos out),
    fun low other => answered (r := refuse .state) ((if_neg (by omega)).trans (if_pos other)),
    fun washed d demand => ?_⟩
  have taken (upgrade : Bool) {d' : Demand} {program : Option ProgramNo} (hf : flag.toNat = upgrade.toNat)
      (hc : s.ret.failed x.record upgrade = x.record.sentBack d' program) : failed d' program := by
    have bit : (flag.toNat == 1) = upgrade := by rw [hf]; cases upgrade <;> rfl
    have := answered (inspectFailOn_taken (hf ▸ upgrade.toNat_le) washed (bit ▸ hc))
    cases d' <;> cases program <;> exact this
  refine ⟨fun hf => taken false hf (Retained.failed_kept demand),
    fun hf asks => taken true hf (Retained.failed_upgraded demand asks), fun hf unwashed newest older history => ?_,
    fun hf unwashed history k intent => ?_⟩
  · refine taken true hf (Retained.failed_upgraded_noWash demand unwashed ?_)
    rw [Retained.upgradeProgram, history]
    rfl
  · refine taken true hf (Retained.failed_upgraded_noWash demand unwashed ?_)
    rw [Retained.upgradeProgram, history, intent]
    rfl

/-! ## VOID-RELEASE and EMPTIED (R127, R144) -/

/-- Settles O45: each owner's check of the state, and the record it writes. -/
theorem voidReleaseAndEmptied : Obligations.VoidReleaseAndEmptied := by
  intro tag slot n s x ready hx
  have void {t : State} {r : Reply} (ho : ownVoidRelease .office [slot, n] s = (t, r)) :
      exec (.voidRelease .office tag [slot, n]) s = .next (t.replies .office .voidRelease tag r.code r.body) :=
    exec_office (k := .voidRelease) ready rfl rfl tag rfl (by simp) ho
  have emptied {t : State} {r : Reply} (ho : ownEmptied .office [slot, n] s = (t, r)) :
      exec (.emptied .office tag [slot, n]) s = .next (t.replies .office .emptied tag r.code r.body) :=
    exec_office (k := .emptied) ready rfl rfl tag rfl (by simp) ho
  refine ⟨fun other => void (r := refuse .state) ?_,
    fun released rel release => void (r := okay (byte3 rel.certificate)) ?_,
    fun other => emptied (r := refuse .state) ?_, fun laden => emptied (r := okay []) ?_⟩
  · simp only [ownVoidRelease, hx, if_pos other]
  · have release : x.record.release = some rel := release
    simp only [ownVoidRelease, hx, if_neg (not_not_intro released), release]
  · simp only [ownEmptied, hx, if_pos other]
  · simp only [ownEmptied, hx, if_neg (not_not_intro laden)]

end Sys2Proof.Machine
end

section
/-! # The release timer and the yard clock (R124 to R129, R172) -/

namespace Sys2Proof.Machine

variable {s : State}

/-! ## The release timer (R124 to R126, R129) -/

/-- A record's place in the overdue set (R124, R125). -/
theorem State.overdueSet_get (s : State) (r : RecordRef) :
    s.overdueSet[r] = (match s.ret.pool[r] with
      | none => false
      | some c => decide (c.state = .released ∧ ∃ x ∈ c.release, x.deadline ≤ s.ret.clock)) := by
  rw [State.overdueSet, mapTable_eq_map, Fin.getElem_fin, Vector.getElem_map]
  cases s.ret.pool[r.val] with
  | none => rfl
  | some c => exact Compartment.overdue_eq _ c

/-- While the timer runs, a check adds the overdue references to the lapses on their way (R125). -/
theorem State.timerCheck_running (runs : s.act.releaseTimer = true) : s.timerCheck = { s with act := { s.act with
    lapsesDue := Vector.ofFn (fun k : RecordRef => s.act.lapsesDue[k] || s.overdueSet[k]) } } := by
  have sent : (⟨⟨List.zipWith (· || ·) s.act.lapsesDue.toList s.overdueSet.toList⟩, by simp⟩ : RefSet)
      = Vector.ofFn (fun k : RecordRef => s.act.lapsesDue[k] || s.overdueSet[k]) :=
    table_ofFn _ _ fun k => by simp
  rw [State.timerCheck, if_pos runs, sent]

/-- A lapse takes a RELEASED record (R126). -/
theorem State.lapse_released {r : RecordRef} {c : Compartment} (record : s.ret.pool[r] = some c)
    (released : c.state = .released) : s.lapse r = s.changeRecord r c.lapsed :=
  State.transition_taken record (by simp [released])

/-- A lapse of a record that is not RELEASED is not taken (R126, R129). -/
theorem State.lapse_refused {r : RecordRef} (other : ∀ c ∈ s.ret.pool[r], c.state ≠ .released) : s.lapse r = s := by
  obtain ⟨c, record, released, -⟩ | ⟨-, same⟩ := s.transition_cases r [.released] Compartment.lapsed
  · exact absurd (List.mem_singleton.mp released) (other c record)
  · exact same

/-- Settles O46: a check adds the overdue set (`State.overdueSet_get`) to the lapses on their way, and a lapse that
arrives is `State.lapse`, which expects RELEASED. -/
theorem releaseTimerLapses : Obligations.ReleaseTimerLapses := by
  intro r s power
  rw [exec_releaseTimerCheck power, exec_releaseLapse power]
  refine ⟨fun stopped => ?_, fun runs => ?_, fun idle => ?_, fun due => ?_⟩
  · rw [State.timerCheck, if_neg (by simp [stopped])]
  · rw [State.timerCheck_running runs]
    refine congrArg (fun f => Host.Outcome.next { s with act := { s.act with lapsesDue := Vector.ofFn f } })
      (funext fun k => ?_)
    exact congrArg (s.act.lapsesDue[k] || ·) (s.overdueSet_get k)
  · rw [State.lapseStep, if_neg (by simp [idle])]
  intro t
  refine ⟨fun other => ?_, fun c record released => ?_⟩
  · rw [State.lapseStep, if_pos due, State.lapse_refused (s := t) other]
  · rw [State.lapseStep, if_pos due, State.lapse_released (s := t) record released]
    rfl

/-! ## The yard clock (R128, R172) -/

/-- A deadline shifted with the clock: as far forward or back as the clock was set, held in the clock's range (R128). -/
theorem shiftDeadline_eq (deadline clock reading : Nat) : shiftDeadline deadline clock reading =
    min (if clock ≤ reading then deadline + (reading - clock) else deadline - (clock - reading)) 4294967295 := by
  unfold shiftDeadline maxClock
  split <;> omega

/-- Settles O47: SET-CLOCK shifts each deadline by `shiftDeadline_eq`, and a second counts while the marker is valid. -/
theorem yardClockSetAndCounts : Obligations.YardClockSetAndCounts := by
  intro tag c1 c2 c3 c4 s
  have second : exec .yardClockSecond s = .next s.clockSecond := rfl
  refine ⟨fun ready => ?_, fun valid => ?_, fun invalid => ?_⟩
  · intro reading shifted
    have answered : exec (.setClock .office tag [c1, c2, c3, c4]) s
        = .next ((s.setClockTo reading).replies .office .setClock tag .ok (byte4 s.ret.clock)) :=
      exec_office (k := .setClock) ready rfl rfl tag rfl (by simp) (r := okay (byte4 s.ret.clock)) rfl
    have carried : Compartment.shifted s.ret.clock reading = fun c =>
        { c with release := c.release.map (fun x => { x with deadline := shifted x.deadline }) } := by
      funext c
      simp only [Compartment.shifted, shiftDeadline_eq, shifted]
    rw [answered, State.setClockTo, mapTable_eq_map, carried]
  · rw [second, State.clockSecond, if_pos valid]
    rfl
  · rw [second, State.clockSecond, if_neg (by simp [invalid])]

end Sys2Proof.Machine
end

section
/-! # FILL-START (R124, R126, R133, R134) -/

namespace Sys2Proof.Machine

variable {s : State} {x : Named} {cargo preset : Nat}

/-- A compartment is FILLING somewhere in the pool. -/
theorem State.anyFilling_iff : s.anyRecord (fun c => c.state == .filling) = true ↔
    ∃ r : RecordRef, ∃ c ∈ s.ret.pool[r], c.state = .filling := by
  simp [State.anyRecord_iff]

/-- No compartment is FILLING. -/
theorem State.noneFilling (free : ∀ r : RecordRef, ∀ c ∈ s.ret.pool[r], c.state ≠ .filling) :
    ¬ s.anyRecord (fun c => c.state == .filling) = true := by
  simpa [State.anyFilling_iff] using free

/-- A release is overdue once its deadline is reached (R124). -/
theorem Release.overdue_iff (rel : Release) (clock : Nat) : rel.overdue clock = true ↔ rel.deadline ≤ clock :=
  decide_eq_true_iff

/-- A cargo number is read as a class exactly when it is the class's number. -/
theorem classOf_eq_some_iff (n : Nat) (k : ClassNo) : classOf n = some k ↔ n = k.val + 1 := by
  refine ⟨fun h => ?_, classOf_eq_some⟩
  unfold classOf at h
  split at h
  · cases h
    simp only
    omega
  · cases h

section

variable (clear : (s.hold .rack).nonEmpty = false)

include clear

/-- A rack that is not held is busy while a compartment is FILLING (R133). -/
theorem fillStartOn_busy (busy : ∃ r : RecordRef, ∃ c ∈ s.ret.pool[r], c.state = .filling) :
    fillStartOn x cargo preset s = (s, refuse .busy) := by
  rw [fillStartOn, if_neg (by simp [clear]), if_pos (State.anyFilling_iff.mpr busy)]

variable (free : ∀ r : RecordRef, ∀ c ∈ s.ret.pool[r], c.state ≠ .filling)

include free

/-- At a rack neither held nor filling, a compartment that is not RELEASED is answered STATE (R133). -/
theorem fillStartOn_other (other : x.record.state ≠ .released) :
    fillStartOn x cargo preset s = (s, refuse .state) := by
  rw [fillStartOn, if_neg (by simp [clear]), if_neg (State.noneFilling free)]
  split
  next released _ => exact absurd released other
  · rfl

/-- At a rack neither held nor filling, a RELEASED compartment comes to the checks of its release, its class and the
preset (R133). -/
theorem fillStartOn_released (released : x.record.state = .released) {rel : Release}
    (release : x.record.release = some rel) : fillStartOn x cargo preset s =
      if rel.deadline ≤ s.ret.clock then (s.lapse x.ref, refuse .lapsed)
      else if cargo ≠ rel.releasedFor.val + 1 then (s, refuse .cargoClass)
      else if preset = 0 then (s, refuse .range)
      else (s.openFill x rel.releasedFor preset,
        okay (byte2 (min preset x.record.capacity) ++ byteFlag (decide (x.record.capacity < preset))
          ++ byte2 x.record.capacity ++ byte3 rel.certificate)) := by
  rw [fillStartOn, if_neg (by simp [clear]), if_neg (State.noneFilling free), released, release]
  simp only [Release.overdue_iff, ne_eq, classOf_eq_some_iff]

end

/-- Settles O48: the refusals are `fillStartOn`'s in order, the lapse is `State.lapse_released`, and a taken request is
`State.openFill`. -/
theorem fillStartOpensTheFill : Obligations.FillStartOpensTheFill := by
  intro tag n k p1 p2 s x ready hopen hx sent preset answers
  have answered {t : State} {r : Reply} (ho : fillStartOn x k.toNat preset s = (t, r)) :
      sent = .next (t.replies .rack .fillStart tag r.code r.body) :=
    exec_positionNamed (k := .fillStart) (pos := .rack) ready hopen rfl tag rfl (by simp) hx
      (by simp only [owner, Position.port, ownFillStart, hx]; exact ho)
  refine ⟨fun held => answered (r := refuse .held) (if_pos held), fun clear =>
    ⟨fun busy => answered (r := refuse .busy) (fillStartOn_busy clear busy), fun free =>
      ⟨fun other => answered (r := refuse .state) (fillStartOn_other clear free other),
        fun released rel release => ?_⟩⟩⟩
  have checks := fillStartOn_released (cargo := k.toNat) (preset := preset) clear free released release
  refine ⟨fun overdue => ?_, fun current wrong => ?_, fun current right zero => ?_, fun current right positive => ?_⟩
  · rw [if_pos overdue, State.lapse_released (State.record_of_nameBound hx) released] at checks
    exact answered (r := refuse .lapsed) checks
  · rw [if_neg (by omega), if_pos wrong] at checks
    exact answered (r := refuse .cargoClass) checks
  · rw [if_neg (by omega), if_neg (not_not_intro right), if_pos zero] at checks
    exact answered (r := refuse .range) checks
  · rw [if_neg (by omega), if_neg (not_not_intro right), if_neg (by omega)] at checks
    exact answered checks

end Sys2Proof.Machine
end

section
/-! # FILL-END and FILL-ABORT (R139 to R142) -/

namespace Sys2Proof.Machine

variable {s : State} {x : Named} {f : Fill} {litres : Nat}

/-- The tolerance is a half per cent of the count, and 200 decilitres at least (R140). -/
theorem tolerance_eq (counted : Nat) : tolerance counted = if 40000 < counted then counted / 200 else 200 := by
  unfold tolerance
  split <;> omega

/-- The difference of a report is that of the two volumes as integers (R140). -/
theorem difference_eq (counted reported : Nat) :
    difference counted reported = ((counted : Int) - 10 * (reported : Int)).natAbs := by
  unfold difference
  omega

/-- A report is out of tolerance when it differs from the count by more (R140). -/
theorem mismatch_eq (counted reported : Nat) : mismatch counted reported
    = decide ((if 40000 < counted then counted / 200 else 200) < ((counted : Int) - 10 * (reported : Int)).natAbs) := by
  rw [mismatch, tolerance_eq, difference_eq]

/-- FILL-END expects FILLING (R139). -/
theorem fillEndOn_other (other : x.record.state ≠ .filling) : fillEndOn x litres s = (s, refuse .state) := by
  unfold fillEndOn
  split
  next filling _ => exact absurd filling other
  · rfl

/-- FILL-ABORT expects FILLING (R141). -/
theorem fillAbortOn_other (other : x.record.state ≠ .filling) : fillAbortOn x s = (s, refuse .state) := by
  unfold fillAbortOn
  split
  next filling _ => exact absurd filling other
  · rfl

section

variable (filling : x.record.state = .filling) (fill : x.record.fill = some f)

include filling fill

/-- FILL-END closes the fill of a FILLING compartment with its report (R139, R140). -/
theorem fillEndOn_filling : fillEndOn x litres s =
    ((s.setFillUnit FillUnit.idle).changeRecord x.ref (x.record.ladenWith (f.reportedAs litres)),
      okay (byte3 f.counted ++ byte2 (tolerance f.counted) ++ byteFlag (mismatch f.counted litres))) := by
  simp only [fillEndOn, filling, fill]

/-- FILL-ABORT of a fill with nothing counted takes the compartment back to RELEASED (R142). -/
theorem fillAbortOn_empty (empty : f.counted = 0) : fillAbortOn x s =
    ((s.setFillUnit FillUnit.idle).changeRecord x.ref { x.record with state := .released, fill := none },
      okay [7#8, 0#8, 0#8, 0#8]) := by
  simp only [fillAbortOn, filling, fill, empty, if_true]
  rfl

/-- FILL-ABORT of a fill with something counted closes it as abandoned (R142). -/
theorem fillAbortOn_counted (counted : 0 < f.counted) : fillAbortOn x s =
    ((s.setFillUnit FillUnit.idle).changeRecord x.ref (x.record.ladenWith f.abandoned),
      okay ([9#8] ++ byte3 f.counted)) := by
  simp only [fillAbortOn, filling, fill, if_neg counted.ne']
  rfl

end

/-- Settles O50: each owner by the compartment's state (`fillEndOn_filling`, `fillAbortOn_empty`,
`fillAbortOn_counted`), with the tolerance and the difference of R140 as `mismatch_eq` has them. -/
theorem fillEndAndAbortCloseTheFill : Obligations.FillEndAndAbortCloseTheFill := by
  intro tag n v1 v2 s x ready hopen hx idle
  have ended {t : State} {r : Reply} (ho : fillEndOn x (number [v1, v2]) s = (t, r)) :
      exec (.fillEnd .rack tag [n, v1, v2]) s = .next (t.replies .rack .fillEnd tag r.code r.body) :=
    exec_positionNamed (k := .fillEnd) (pos := .rack) ready hopen rfl tag rfl (by simp) hx
      (by simp only [owner, Position.port, ownFillEnd, hx]; exact ho)
  have aborted {t : State} {r : Reply} (ho : fillAbortOn x s = (t, r)) :
      exec (.fillAbort .rack tag [n]) s = .next (t.replies .rack .fillAbort tag r.code r.body) :=
    exec_positionNamed (k := .fillAbort) (pos := .rack) ready hopen rfl tag rfl (by simp) hx
      (by simp only [owner, Position.port, ownFillAbort, hx]; exact ho)
  refine ⟨fun other => ⟨ended (fillEndOn_other other), aborted (fillAbortOn_other other)⟩, fun filling f fill => ?_⟩
  have closed := fillEndOn_filling (s := s) (litres := number [v1, v2]) filling fill
  rw [Fill.reportedAs, mismatch_eq, tolerance_eq] at closed
  exact ⟨ended closed, fun empty => aborted (fillAbortOn_empty filling fill empty),
    fun counted => aborted (fillAbortOn_counted filling fill counted)⟩

end Sys2Proof.Machine
end

section
/-! # What leaves the rack fill unit and the FILLING compartment alone (R132, R151)

The law of the rack fill unit compares its active compartment with the compartments that are FILLING and with the
tanker each belongs to, and reads the bays' OVERFILL causes. FILL-START, FILL-END, FILL-ABORT, RESUME, the four requests
about tankers and the starts write one of these; every other operation leaves them all as they are. -/

namespace Sys2Proof.Machine

variable {s t : State}

/-- What the law reads: the rack fill unit's compartment, the bays' OVERFILL causes, the tankers, and which records are
FILLING. -/
@[ext] structure FillView where
  active : Option RecordRef
  overfill : Bay → Bool
  tankers : Vector (Option Tanker) 12
  filling : RecordRef → Bool

def State.fillView (s : State) : FillView :=
  ⟨s.act.fillUnit.active, fun b => (s.hold (.bay b)).overfill, s.ret.tankers, fun r => s.inState r .filling⟩

/-! ## The state of a record -/

theorem State.inState_eq (s : State) (r : RecordRef) (x : CState) :
    s.inState r x = (s.ret.pool[r]).any (fun c => c.state == x) := by
  unfold State.inState State.record
  cases s.ret.pool[r] <;> rfl

theorem State.inState_iff {r : RecordRef} {x : CState} :
    s.inState r x = true ↔ ∃ c ∈ s.ret.pool[r], c.state = x := by
  rw [State.inState_eq]
  cases s.ret.pool[r] <;> simp

theorem State.inState_of_record {r : RecordRef} {c : Compartment} (hc : s.ret.pool[r] = some c) (x : CState) :
    s.inState r x = (c.state == x) := by
  rw [State.inState_eq, hc, Option.any_some]

/-- A record in a wash state is not FILLING. -/
theorem CState.ne_filling_of_isWash {x : CState} (h : x.isWash = true) : x ≠ .filling := by
  rintro rfl
  cases h

section

variable (s) (b : Bay) (r : RecordRef)

/-! ## Named updates and hand-overs -/

@[simp] theorem State.setUnit_fillView (x : WashUnit) : (s.setUnit b x).fillView = s.fillView := rfl
@[simp] theorem State.setArbiter_fillView (a : Arbiter) : (s.setArbiter a).fillView = s.fillView := rfl
@[simp] theorem State.openMode_fillView : s.openMode.fillView = s.fillView := rfl
@[simp] theorem State.advanceCertificate_fillView : s.advanceCertificate.fillView = s.fillView := rfl

variable {s r}

/-- A record written FILLING where one was, and another where none was. -/
theorem State.setRecord_fillView {c : Compartment} (same : s.inState r .filling = (c.state == .filling)) :
    (s.setRecord r (some c)).fillView = s.fillView := by
  refine FillView.ext rfl rfl rfl (funext fun k => ?_)
  change (s.setRecord r (some c)).inState k .filling = s.inState k .filling
  rw [State.inState_eq, State.setRecord_pool, table_set]
  split
  next hk => rw [hk, same, Option.any_some]
  · rw [State.inState_eq]

theorem State.notify_fillView (s : State) (r : RecordRef) : (s.notify r).fillView = s.fillView := by
  obtain ⟨v, frame⟩ := s.notify_frame r
  rw [frame]
  rfl

theorem State.changeRecord_fillView {c : Compartment} (same : s.inState r .filling = (c.state == .filling)) :
    (s.changeRecord r c).fillView = s.fillView :=
  (State.notify_fillView _ r).trans (State.setRecord_fillView same)

/-- A record in use, not FILLING, changed to another such after moves that leave the view as it is. -/
theorem State.changeRecord_fillView_of_ne {c c' : Compartment} (view : t.fillView = s.fillView)
    (hc : s.ret.pool[r] = some c) (old : c.state ≠ .filling) (new : c'.state ≠ .filling) :
    (t.changeRecord r c').fillView = s.fillView := by
  have filling : t.inState r .filling = s.inState r .filling := congrFun (congrArg FillView.filling view) r
  refine (State.changeRecord_fillView ?_).trans view
  rw [filling, State.inState_of_record hc, beq_eq_false_iff_ne.mpr old, beq_eq_false_iff_ne.mpr new]

/-- A record in use rewritten in its state. -/
theorem State.setRecord_fillView_of_state {c c' : Compartment} (hc : s.ret.pool[r] = some c)
    (same : c'.state = c.state) : (s.setRecord r (some c')).fillView = s.fillView :=
  State.setRecord_fillView (by rw [State.inState_of_record hc, same])

/-- A transition request that neither begins nor ends a fill. -/
theorem State.transition_fillView (s : State) (r : RecordRef) {expected : List CState} {f : Compartment → Compartment}
    (hf : ∀ c, c.state ∈ expected → ((f c).state = .filling ↔ c.state = .filling)) :
    (s.transition r expected f).fillView = s.fillView := by
  obtain ⟨c, hc, he, h⟩ | ⟨-, h⟩ := s.transition_cases r expected f
  · rw [h]
    refine State.changeRecord_fillView ?_
    rw [State.inState_of_record hc, Bool.eq_iff_iff, beq_iff_eq, beq_iff_eq, hf c he]
  · rw [h]

/-- A fold of moves that each leave the view as it is. -/
theorem State.foldl_fillView {α : Type} {f : State → α → State} (hf : ∀ (s : State) x, (f s x).fillView = s.fillView)
    (xs : List α) (s : State) : (xs.foldl f s).fillView = s.fillView := by
  induction xs generalizing s with
  | nil => rfl
  | cons x xs ih => exact (ih (f s x)).trans (hf s x)

/-- New records written where none is FILLING. -/
theorem State.admitRecords_fillView (s : State) (n : Nat) (xs : List (RecordRef × Nat × List ClassNo))
    (fresh : ∀ x ∈ xs, s.inState x.1 .filling = false) : (s.admitRecords n xs).fillView = s.fillView := by
  induction xs generalizing s n with
  | nil => rfl
  | cons x xs ih =>
    have written : (s.changeRecord x.1 (newCompartment (n + 1) x.2.1 x.2.2)).fillView = s.fillView :=
      State.changeRecord_fillView (fresh x List.mem_cons_self)
    refine (ih _ (n + 1) fun y hy => ?_).trans written
    exact (congrFun (congrArg FillView.filling written) y.1).trans (fresh y (List.mem_cons_of_mem x hy))

/-! ## The wash cycle -/

section

variable {c : Compartment} (hc : s.ret.pool[r] = some c)

@[simp] theorem State.leaveRunning_fillView (s : State) (shares : Nat) :
    (s.leaveRunning b shares).fillView = s.fillView := rfl

@[simp] theorem State.releaseLoop_fillView (s : State) (r : RecordRef) (c : Compartment) :
    (s.releaseLoop b r c).fillView = s.fillView := by
  unfold State.releaseLoop
  split <;> rfl

include hc

theorem State.endWash_fillView (old : c.state ≠ .filling) (n : Note) : (s.endWash b r c n).fillView = s.fillView :=
  State.changeRecord_fillView_of_ne (by simp) hc old (by simp [Compartment.endedDirty])

theorem State.stopWash_fillView (old : c.state.isWash = true) (n : Note) :
    (s.stopWash r c n).fillView = s.fillView := by
  have old := CState.ne_filling_of_isWash old
  unfold State.stopWash
  split
  · exact State.endWash_fillView _ hc old n
  · exact State.changeRecord_fillView_of_ne rfl hc old (by simp [Compartment.endedDirty])

theorem State.enterQueued_fillView (old : c.state ≠ .filling) (p : Progress) (ph : Phase) :
    (s.enterQueued b r c p ph).fillView = s.fillView :=
  State.changeRecord_fillView_of_ne (by simp) hc old (by simp [Compartment.enterQueued])

/-- A phase completed, by an update that may have rewritten the bay's unit before (R49 to R51). -/
theorem State.completePhase_fillView (view : t.fillView = s.fillView) (running : c.state = .running) (p : Progress)
    (ph : Phase) : (t.completePhase b r c p ph).fillView = s.fillView := by
  have old : c.state ≠ .filling := by simp [running]
  unfold State.completePhase
  simp only
  split
  · exact State.changeRecord_fillView_of_ne (by simpa using view) hc old (by simp [Compartment.washed])
  · exact State.changeRecord_fillView_of_ne (by simpa using view) hc old (by simp [Compartment.handedOver])

end

variable (s)

theorem State.expire_fillView (runs : Bool) (stopped : WashUnit) {x : CState} (hx : x ≠ .filling)
    (n : Note) : (s.expire b runs stopped x n).fillView = s.fillView := by
  unfold State.expire
  split
  · split
    · rfl
    · split
      · rfl
      next hc =>
        split
        next hs => exact State.endWash_fillView b hc (hs ▸ hx) n
        · rfl
  · rfl

theorem State.grantStep_fillView : s.grantStep.fillView = s.fillView := by
  unfold State.grantStep
  split
  · rfl
  · split
    · rfl
    next hc =>
      split
      next queued _ =>
        split
        · exact State.changeRecord_fillView_of_ne rfl hc (by simp [queued]) (by simp [Compartment.granted])
        · rfl
      · rfl

theorem State.holdStep_fillView : (s.holdStep b).fillView = s.fillView := by
  unfold State.holdStep
  simp only
  split
  · rfl
  · split
    · rfl
    next hc =>
      split
      · rfl
      · split
        next may =>
          refine State.changeRecord_fillView_of_ne (by simp) hc (fun filling => ?_) (by simp [Compartment.heldAt])
          simp [filling, CState.canHold] at may
        · rfl

theorem State.resumeStep_fillView : (s.resumeStep b).fillView = s.fillView := by
  unfold State.resumeStep
  simp only
  split
  · rfl
  · split
    · rfl
    next hc =>
      split
      · rfl
      · split_ifs with held
        · exact State.changeRecord_fillView_of_ne rfl hc (by simp [held.1]) (by simp [Compartment.backToHandover])
        · split
          · exact State.enterQueued_fillView b hc (by simp [held.1]) _ _
          · rfl
        · rfl

theorem State.phaseTick_fillView : (s.phaseTick b).fillView = s.fillView := by
  unfold State.phaseTick
  split
  · rfl
  next w hw =>
    obtain ⟨-, hc, -⟩ := State.of_runningAt hw
    split
    · exact State.setRecord_fillView_of_state hc rfl
    · rfl

theorem State.phaseExpiry_fillView : (s.phaseExpiry b).fillView = s.fillView := by
  unfold State.phaseExpiry
  split
  · rfl
  next w hw =>
    obtain ⟨-, hc, running, -⟩ := State.of_runningAt hw
    split
    · exact State.endWash_fillView b hc (by simp [running]) _
    · rfl

theorem State.closeInterval_fillView : (s.closeInterval b).fillView = s.fillView := by
  unfold State.closeInterval
  simp only
  split
  · rfl
  next w hw =>
    obtain ⟨-, hc, running, -⟩ := State.of_runningAt hw
    split_ifs
    · exact State.completePhase_fillView b hc rfl running _ _
    · exact (State.setUnit_fillView _ b _).trans (State.setRecord_fillView_of_state hc rfl)
    · rfl

theorem State.conductivitySample_fillView (sample : Option Nat) :
    (s.conductivitySample b sample).fillView = s.fillView := by
  unfold State.conductivitySample
  split
  · rfl
  next w hw =>
    obtain ⟨-, hc, running, -⟩ := State.of_runningAt hw
    split
    · rfl
    · simp only
      split
      · exact State.completePhase_fillView b hc (s.setUnit_fillView b _) running _ _
      · exact (State.setRecord_fillView_of_state (s := s.setUnit b _) hc (by rfl)).trans (s.setUnit_fillView b _)

/-! ## Lapses, the clock, pulses and the instruments -/

@[simp] theorem State.lapse_fillView (r : RecordRef) : (s.lapse r).fillView = s.fillView :=
  s.transition_fillView r fun c hc => by simp_all [Compartment.lapsed]

@[simp] theorem State.lapseAll_fillView : s.lapseAll.fillView = s.fillView :=
  State.foldl_fillView (fun s r => s.lapse_fillView r) _ s

theorem State.timerCheck_fillView : s.timerCheck.fillView = s.fillView := by
  unfold State.timerCheck
  split <;> rfl

theorem State.lapseStep_fillView (r : RecordRef) : (s.lapseStep r).fillView = s.fillView := by
  unfold State.lapseStep
  split
  · exact State.lapse_fillView _ r
  · rfl

theorem State.clockSecond_fillView : s.clockSecond.fillView = s.fillView := by
  unfold State.clockSecond
  split <;> rfl

/-- The clock set shifts deadlines only (R128). -/
theorem State.setClockTo_fillView (reading : Nat) : (s.setClockTo reading).fillView = s.fillView := by
  refine FillView.ext rfl rfl rfl (funext fun r => ?_)
  have shifted : (s.setClockTo reading).ret.pool[r]
      = (s.ret.pool[r]).map (Compartment.shifted s.ret.clock reading) := by
    simp [State.setClockTo, mapTable_eq_map]
  change (s.setClockTo reading).inState r .filling = s.inState r .filling
  rw [State.inState_eq, State.inState_eq, shifted, Option.any_map]
  rfl

/-- OVERFILL joins the rack's hold set, no bay's (R138). -/
theorem State.joinOverfill_fillView : s.joinOverfill.fillView = s.fillView := by
  refine FillView.ext rfl (funext fun b => ?_) rfl rfl
  exact congrArg HoldSet.overfill (s.hold_setHold .rack (.bay b) _)

/-- A pulse of the rack's meter counts in the fill, and leaves the compartment FILLING (R135, R136, R138). -/
theorem State.rackPulse_fillView : s.rackPulse.fillView = s.fillView := by
  unfold State.rackPulse
  split
  · rfl
  next r _ =>
    split
    · rfl
    next c hc =>
      split
      · have joined (b : Bool) : (if b then s.joinOverfill else s).fillView = s.fillView := by
          split
          · exact s.joinOverfill_fillView
          · rfl
        have kept (b : Bool) : (if b then s.joinOverfill else s).ret.pool[r] = some c := by split <;> exact hc
        have counted (b : Bool) (f : Fill) : ((if b then s.joinOverfill else s).setRecord r
            (some { c with fill := some f })).fillView = s.fillView :=
          (State.setRecord_fillView_of_state (kept b) (by rfl)).trans (joined b)
        simp only
        split
        · exact (State.notify_fillView _ r).trans (counted _ _)
        · exact counted _ _
      · rfl

theorem State.bayPulse_fillView : (s.bayPulse b).fillView = s.fillView := by
  unfold State.bayPulse
  simp only
  split <;> rfl

theorem State.samplePulse_fillView (m : Position) (level : Level) :
    (s.samplePulse m level).fillView = s.fillView := by
  unfold State.samplePulse
  simp only
  split
  · cases m with
    | bay b => exact State.bayPulse_fillView _ b
    | rack => exact State.rackPulse_fillView _
  · rfl

/-- The STOPPED update leaves a compartment FILLING (R137). -/
theorem State.stoppedStep_fillView : s.stoppedStep.fillView = s.fillView := by
  unfold State.stoppedStep
  split
  · simp only
    split
    · rfl
    · exact State.transition_fillView _ _ fun c _ => Iff.rfl
  · rfl

theorem State.sweepStep_fillView : (s.sweepStep b).fillView = s.fillView := by
  unfold State.sweepStep
  simp only
  split <;> rfl

theorem State.convert_fillView (ch : Probe) (code : Code) : (s.convert ch code).fillView = s.fillView := by
  unfold State.convert State.deliverSample
  split_ifs
  · unfold State.supplySample
    split <;> rfl
  · rfl
  · exact State.conductivitySample_fillView _ _ _
  · rfl

theorem State.storeSetting_fillView (i : Fin 25) (v : Nat) :
    ((s.storeSetting i v).settingEffect i v).fillView = s.fillView := by
  unfold State.settingEffect
  split
  · rfl
  · split
    · rfl
    · simp only
      split <;> rfl

/-! ## Lines -/

variable (l : Line)

/-- A line's action writes lines into hold sets, and may send the STOPPED update of the unit as it is (R137, R149). -/
theorem State.lineAction_fillView (a : Action) : (s.lineAction l a).fillView = s.fillView := by
  rw [State.lineAction_eq]
  refine FillView.ext ?_ (funext fun b => ?_) rfl rfl
  · change FillUnit.active (if _ then _ else _) = s.act.fillUnit.active
    split <;> rfl
  · change ((s.holdsUnder a l)[(Position.bay b).index]).overfill = (s.act.holds[(Position.bay b).index]).overfill
    simp only [State.holdsUnder, Fin.getElem_fin, Vector.getElem_ofFn]
    split <;> rfl

theorem State.lineBecomesActive_fillView (e : Route) : (s.lineBecomesActive l e).fillView = s.fillView := by
  unfold State.lineBecomesActive
  split
  · rfl
  · rw [State.lineNotices_eq]
    exact s.lineAction_fillView l e.action

theorem State.sampleLine_fillView (level : Level) : (s.sampleLine l level).fillView = s.fillView := by
  unfold State.sampleLine
  simp only
  split
  · split
    · exact State.lineBecomesActive_fillView _ l _
    · rfl
  · rfl

theorem State.reroute_fillView (e : Route) : (s.reroute l e).fillView = s.fillView := by
  unfold State.reroute
  simp only [State.trimPending_eq]
  split
  · exact State.lineBecomesActive_fillView _ l e
  · rfl

end

end Sys2Proof.Machine
end

section
/-! # What the owners leave alone of the rack fill unit -/

namespace Sys2Proof.Machine

variable {s : State}

section

variable {x : Named} (hx : s.ret.pool[x.ref] = some x.record)

include hx

/-- SET-INTENT acts on a compartment that is not FILLING, and fills none (R37 to R40). -/
theorem setIntentOn_fillView (intent : Nat) : (setIntentOn x intent s).1.fillView = s.fillView := by
  unfold setIntentOn
  split
  · rfl
  next k _ =>
    split
    · rfl
    next can =>
      have old : x.record.state ≠ .filling := fun filling => can (by rw [filling]; rfl)
      have new (d : Demand) (program : Option ProgramNo) : (x.record.retargeted k d program).state ≠ .filling := by
        unfold Compartment.retargeted Compartment.targeted
        simp only
        repeat' split
        all_goals simp [old]
      split
      · rfl
      · rfl
      · rfl
      next d program _ =>
        simp only [State.retarget]
        split
        next same => exact State.setRecord_fillView_of_state hx same
        · exact State.changeRecord_fillView_of_ne rfl hx old (new d program)

theorem inspectPassOn_fillView (inspector : Nat) : (inspectPassOn x inspector s).1.fillView = s.fillView := by
  unfold inspectPassOn
  split_ifs with _ other
  · rfl
  · rfl
  · split
    · exact State.changeRecord_fillView_of_ne s.advanceCertificate_fillView hx (by simp [not_not.mp other]) (by simp)
    · rfl

theorem inspectFailOn_fillView (flag : Nat) : (inspectFailOn x flag s).1.fillView = s.fillView := by
  unfold inspectFailOn
  split_ifs with _ other
  · rfl
  · rfl
  · refine State.changeRecord_fillView_of_ne rfl hx (by simp [not_not.mp other]) ?_
    unfold Retained.failed
    split <;> simp

theorem startWashOn_fillView (b : Bay) : (startWashOn b x s).1.fillView = s.fillView := by
  unfold startWashOn
  split_ifs with other
  · rfl
  · rfl
  · rfl
  · split
    · rfl
    · have dirty : x.record.state = .dirty := not_not.mp (not_or.mp other).1
      exact State.enterQueued_fillView b hx (by simp [dirty]) _ _

theorem phaseGoOn_fillView : (phaseGoOn x s).1.fillView = s.fillView := by
  unfold phaseGoOn
  split
  next handover _ _ =>
    split
    · rfl
    · exact State.enterQueued_fillView _ hx (by simp [handover]) _ _
  · rfl

end

section

variable (p : Port) (body : List Byte)

theorem ownAckLine_fillView : (ownAckLine p body s).1.fillView = s.fillView := by
  unfold ownAckLine
  repeat' split
  all_goals rfl

theorem ownSetIntent_fillView : (ownSetIntent p body s).1.fillView = s.fillView := by
  unfold ownSetIntent
  split
  · split
    · rfl
    next hx => exact setIntentOn_fillView (State.record_of_nameAtSlot hx) _
  · rfl

theorem ownEmptied_fillView : (ownEmptied p body s).1.fillView = s.fillView := by
  unfold ownEmptied
  split
  · split
    · rfl
    next hx =>
      split
      · rfl
      next other =>
        exact State.changeRecord_fillView_of_ne rfl (State.record_of_nameAtSlot hx) (by simp [not_not.mp other])
          (by simp)
  · rfl

theorem ownVoidRelease_fillView : (ownVoidRelease p body s).1.fillView = s.fillView := by
  unfold ownVoidRelease
  split
  · split
    · rfl
    next hx =>
      split
      · rfl
      next other =>
        exact State.changeRecord_fillView_of_ne rfl (State.record_of_nameAtSlot hx) (by simp [not_not.mp other])
          (by simp)
  · rfl

theorem ownStartWash_fillView : (ownStartWash p body s).1.fillView = s.fillView := by
  unfold ownStartWash
  split
  · split
    · rfl
    next hx => exact startWashOn_fillView (State.record_of_nameBound hx) _
  · rfl

theorem ownPhaseGo_fillView : (ownPhaseGo p body s).1.fillView = s.fillView := by
  unfold ownPhaseGo
  split
  · split
    · rfl
    next hx => exact phaseGoOn_fillView (State.record_of_nameBound hx)
  · rfl

theorem ownAbortWash_fillView : (ownAbortWash p body s).1.fillView = s.fillView := by
  unfold ownAbortWash
  split
  · split
    · rfl
    next hx =>
      split
      next wash => exact State.stopWash_fillView (State.record_of_nameBound hx) wash _
      · rfl
  · rfl

theorem ownCancelWash_fillView : (ownCancelWash p body s).1.fillView = s.fillView := by
  unfold ownCancelWash
  split
  · split
    · rfl
    next hx =>
      split
      next wash => exact State.stopWash_fillView (State.record_of_nameAtSlot hx) wash _
      · rfl
  · rfl

theorem ownInspectPass_fillView : (ownInspectPass p body s).1.fillView = s.fillView := by
  unfold ownInspectPass
  split
  · split
    · rfl
    next hx => exact inspectPassOn_fillView (State.record_of_nameBound hx) _
  · rfl

theorem ownInspectFail_fillView : (ownInspectFail p body s).1.fillView = s.fillView := by
  unfold ownInspectFail
  split
  · split
    · rfl
    next hx => exact inspectFailOn_fillView (State.record_of_nameBound hx) _
  · rfl

theorem ownWriteClass_fillView : (ownWriteClass p body s).1.fillView = s.fillView := by
  unfold ownWriteClass
  repeat' split
  all_goals rfl

theorem ownWriteProgram_fillView : (ownWriteProgram p body s).1.fillView = s.fillView := by
  unfold ownWriteProgram
  repeat' split
  all_goals rfl

theorem ownWriteFollow_fillView : (ownWriteFollow p body s).1.fillView = s.fillView := by
  unfold ownWriteFollow
  repeat' split
  all_goals rfl

theorem ownWriteRoute_fillView : (ownWriteRoute p body s).1.fillView = s.fillView := by
  unfold ownWriteRoute
  split
  · split
    · split
      · rfl
      · exact s.reroute_fillView _ _
    · rfl
  · rfl

theorem ownWriteSetting_fillView : (ownWriteSetting p body s).1.fillView = s.fillView := by
  unfold ownWriteSetting
  split
  · split
    · rfl
    · exact s.storeSetting_fillView _ _
  · rfl

theorem ownReadRoute_fillView : (ownReadRoute p body s).1.fillView = s.fillView := by
  unfold ownReadRoute
  repeat' split
  all_goals rfl

theorem ownSetClock_fillView : (ownSetClock p body s).1.fillView = s.fillView := by
  unfold ownSetClock
  split
  · exact s.setClockTo_fillView _
  · rfl

theorem ownOpenYard_fillView : (ownOpenYard p body s).1.fillView = s.fillView := by
  unfold ownOpenYard
  split
  · rfl
  · simp

/-- The kinds whose owners write nothing the law of the rack fill unit reads: all but the rack's three fill requests,
RESUME and the requests about tankers. -/
def Kind.besideTheFill : Kind → Bool
  | .fillStart | .fillEnd | .fillAbort | .resume | .admitTanker | .depart | .dock | .undock => false
  | _ => true

/-- The owner of such a kind leaves the view as it is. -/
theorem owner_fillView {k : Kind} (hk : k.besideTheFill = true) : (owner k p body s).1.fillView = s.fillView := by
  by_cases hr : k.reports = true
  · rw [owner_of_reports p body hr]
  cases k <;> try exact absurd rfl hr
  case fillStart | fillEnd | fillAbort | resume | admitTanker | depart | dock | undock => cases hk
  case events | yardReset => rfl
  case ackLine => exact ownAckLine_fillView p body
  case setIntent => exact ownSetIntent_fillView p body
  case emptied => exact ownEmptied_fillView p body
  case voidRelease => exact ownVoidRelease_fillView p body
  case cancelWash => exact ownCancelWash_fillView p body
  case startWash => exact ownStartWash_fillView p body
  case phaseGo => exact ownPhaseGo_fillView p body
  case abortWash => exact ownAbortWash_fillView p body
  case inspectPass => exact ownInspectPass_fillView p body
  case inspectFail => exact ownInspectFail_fillView p body
  case writeClass => exact ownWriteClass_fillView p body
  case writeProgram => exact ownWriteProgram_fillView p body
  case writeFollow => exact ownWriteFollow_fillView p body
  case writeRoute => exact ownWriteRoute_fillView p body
  case writeSetting => exact ownWriteSetting_fillView p body
  case readRoute => exact ownReadRoute_fillView p body
  case setClock => exact ownSetClock_fillView p body
  case openYard => exact ownOpenYard_fillView p body

end

end Sys2Proof.Machine
end

section
/-! # The law of the rack fill unit where something writes it (R132, R151) -/

namespace Sys2Proof.Machine

variable {s t : State} {r : RecordRef} {c : Compartment}

/-- The law of the rack fill unit of a powered part (R132, R151). -/
structure State.Fills (s : State) : Prop where
  filling : ∀ r, s.inState r .filling = true ↔ s.act.fillUnit.active = some r
  bound : ∀ r, s.act.fillUnit.active = some r → s.ownerBinding r = some .rack
  bays : ∀ b : Bay, (s.hold (.bay b)).overfill = false

theorem State.fillLaw_iff : s.FillLaw ↔ (s.mainPower = true → s.Fills) := by
  have bays : (∀ q : Fin 5, q.val < 4 → (s.act.holds[q]).overfill = false)
      ↔ ∀ b : Bay, (s.hold (.bay b)).overfill = false :=
    ⟨fun h b => h _ b.isLt, fun h q hq => h ⟨q.val, hq⟩⟩
  refine forall_congr' fun _ => ?_
  simp only [bays, ← State.inState_iff]
  exact ⟨fun ⟨filling, bound, overfill⟩ => ⟨filling, bound, overfill⟩,
    fun ⟨filling, bound, overfill⟩ => ⟨filling, bound, overfill⟩⟩

/-- The state of a record after one is changed. -/
theorem State.changeRecord_inState (s : State) (r k : RecordRef) (c : Compartment) (x : CState) :
    (s.changeRecord r c).inState k x = if k = r then c.state == x else s.inState k x := by
  rw [State.inState_eq, State.changeRecord_pool, table_set]
  split
  · rw [Option.any_some]
  · rw [State.inState_eq]

namespace State.Fills

/-- The law where the tankers were written: each keeps its binding that lists the unit's compartment. -/
theorem of_owners (h : s.Fills) (active : t.act.fillUnit.active = s.act.fillUnit.active)
    (filling : ∀ r, t.inState r .filling = s.inState r .filling)
    (holds : ∀ b : Bay, (t.hold (.bay b)).overfill = (s.hold (.bay b)).overfill)
    (owners : ∀ r, s.act.fillUnit.active = some r → t.ownerBinding r = s.ownerBinding r) : t.Fills where
  filling r := by rw [filling, active, h.filling]
  bound r hr := by
    rw [active] at hr
    rw [owners r hr, h.bound r hr]
  bays b := by rw [holds, h.bays]

theorem of_view (h : s.Fills) (view : t.fillView = s.fillView) : t.Fills := by
  obtain ⟨active, holds, tankers, filling⟩ := FillView.mk.inj view
  exact h.of_owners active (congrFun filling) (congrFun holds) fun r _ => State.ownerBinding_congr tankers r

/-- The unit and one record written together: the unit's compartment before, if any, was that record; after, the unit is
active with it exactly if it is FILLING. -/
theorem moveTo (h : s.Fills) {u : FillUnit} (only : ∀ k, s.act.fillUnit.active = some k → k = r)
    (active : u.active = if c.state = .filling then some r else none)
    (rack : c.state = .filling → s.ownerBinding r = some .rack) : ((s.setFillUnit u).changeRecord r c).Fills := by
  have owner := State.ownerBinding_congr (t := (s.setFillUnit u).changeRecord r c) (s := s)
    ((s.setFillUnit u).changeRecord_tankers r c)
  have others (k : RecordRef) (hk : k ≠ r) : s.inState k .filling = false :=
    Bool.eq_false_iff.mpr fun hf => hk (only k ((h.filling k).mp hf))
  obtain ⟨v, frame⟩ := (s.setFillUnit u).changeRecord_frame r c
  have unit : ((s.setFillUnit u).changeRecord r c).act.fillUnit = u := by rw [frame]; rfl
  refine ⟨fun k => ?_, fun k hk => ?_, fun b => ?_⟩
  · rw [unit, active, State.changeRecord_inState]
    split
    next hk => simp [hk]
    next hk =>
      change s.inState k .filling = true ↔ _
      simp [others k hk, Ne.symm hk]
  · rw [unit, active] at hk
    split at hk
    next filling =>
      cases hk
      rw [owner]
      exact rack filling
    · cases hk
  · rw [frame]
    exact h.bays b

/-- A hold set written without OVERFILL (R152). -/
theorem setHold (h : s.Fills) (p : Position) {x : HoldSet} (hx : x.overfill = false) : (s.setHold p x).Fills := by
  refine ⟨h.filling, h.bound, fun b => ?_⟩
  rw [State.hold_setHold]
  split
  · exact hx
  · exact h.bays b

theorem resumeAt (h : s.Fills) (p : Position) : (resumeAt p s).1.Fills := by
  unfold Machine.resumeAt
  split
  · exact h
  · exact h.setHold p rfl

/-- A start leaves the unit idle, nothing FILLING and every hold set empty (R20, R132, R151). -/
theorem start {changed : RefSet} (act : s.act = Active.start s.ret changed) (unfilled : s.Unfilled) : s.Fills := by
  refine ⟨fun r => ?_, fun r hr => ?_, fun b => ?_⟩
  · have idle : s.act.fillUnit.active = none := by rw [act]; rfl
    have none : s.inState r .filling = false := Bool.eq_false_iff.mpr fun hf =>
      have ⟨c, hc, filling⟩ := State.inState_iff.mp hf
      unfilled r c hc filling
    simp [idle, none]
  · rw [act] at hr
    cases hr
  · rw [State.hold, act]
    simp [Active.start, HoldSet.empty]

end State.Fills

/-! ## What a step rests on -/

/-- What a step of a powered part rests on: the law itself, and what names a compartment's tanker (R1, R3, R12). -/
structure State.FillGround (s : State) : Prop where
  wash : s.WashGround
  fills : s.Fills

/-- The laws of a powered part give it. -/
theorem State.Sound.fillGround (h : s.Sound) (hp : s.mainPower = true) : s.FillGround :=
  ⟨h.washGround hp, State.fillLaw_iff.mp h.filling hp⟩

theorem State.SameButPorts.fillView (h : s.SameButPorts t) : t.fillView = s.fillView := by
  obtain ⟨ret, act, -⟩ := h
  unfold State.fillView State.hold State.inState State.record
  rw [ret, act]

theorem State.FillGround.of_ports (g : s.FillGround) (h : s.SameButPorts t) : t.FillGround := by
  refine ⟨g.wash.of_same h.ret ?_ ?_ h.power, g.fills.of_view h.fillView⟩ <;> rw [h.act]

namespace State.FillGround

variable (g : s.FillGround)

include g

/-! ## The rack's requests (R133 to R142) -/

theorem fillStartOn {n : Nat} {x : Named} (hx : s.nameBound .rack n = .ok x) (cargo preset : Nat) :
    (fillStartOn x cargo preset s).1.Fills := by
  unfold Machine.fillStartOn
  split
  · exact g.fills
  · split
    · exact g.fills
    next free =>
      split
      · split_ifs
        · exact g.fills.of_view (s.lapse_fillView x.ref)
        · exact g.fills
        · exact g.fills
        · refine g.fills.moveTo (fun k hk => ?_) rfl fun _ => g.wash.ownerBinding_of_nameBound hx
          exact absurd (State.anyFilling_iff.mpr ⟨k, State.inState_iff.mp ((g.fills.filling k).mpr hk)⟩) free
      · exact g.fills

/-- The unit is active with a FILLING compartment, which leaves FILLING as the unit becomes idle. -/
theorem closeFill (hc : s.ret.pool[r] = some c) (filling : c.state = .filling) {c' : Compartment}
    (closed : c'.state ≠ .filling) : ((s.setFillUnit FillUnit.idle).changeRecord r c').Fills := by
  have active := (g.fills.filling r).mp (State.inState_iff.mpr ⟨c, hc, filling⟩)
  refine g.fills.moveTo (fun k hk => ?_) (if_neg closed).symm fun still => absurd still closed
  exact Option.some.inj (hk.symm.trans active)

theorem fillEndOn {x : Named} (hx : s.ret.pool[x.ref] = some x.record) (litres : Nat) :
    (fillEndOn x litres s).1.Fills := by
  unfold Machine.fillEndOn
  split
  next filling _ => exact g.closeFill hx filling (by simp [Compartment.ladenWith])
  · exact g.fills

theorem fillAbortOn {x : Named} (hx : s.ret.pool[x.ref] = some x.record) : (fillAbortOn x s).1.Fills := by
  unfold Machine.fillAbortOn
  split
  next filling _ =>
    split
    · exact g.closeFill hx filling (by simp)
    · exact g.closeFill hx filling (by simp [Compartment.ladenWith])
  · exact g.fills

/-! ## Requests about tankers (R10, R11, R13 to R15) -/

/-- A tanker not at the rack does not list the unit's compartment. -/
theorem unlisted {i : Slot} {x : Tanker} (hx : s.ret.tankers[i] = some x) (away : x.binding ≠ some .rack)
    (hr : s.act.fillUnit.active = some r) : r ∉ x.compartments :=
  fun hin => away ((g.wash.ownerBinding_of_listed hx hin).symm.trans (g.fills.bound r hr))

/-- A tanker's binding is written, and its list does not name the unit's compartment. -/
theorem rebind {i : Slot} {x y : Tanker} (hx : s.ret.tankers[i] = some x)
    (unlisted : ∀ r, s.act.fillUnit.active = some r → r ∉ x.compartments) (pool : t.ret.pool = s.ret.pool)
    (tankers : t.ret.tankers = s.ret.tankers.set i (some y)) (act : t.act = s.act)
    (lists : y.compartments = x.compartments) : t.Fills := by
  refine g.fills.of_owners (by rw [act]) (fun r => ?_) (fun b => ?_) fun r hr => ?_
  · rw [State.inState_eq, State.inState_eq, pool]
  · rw [State.hold, act]
    rfl
  · refine State.ownerBinding_of_unlisted tankers (fun z hz => ?_) fun z hz => ?_
    · cases hx.symm.trans hz
      exact unlisted r hr
    · cases hz
      rw [lists]
      exact unlisted r hr

theorem bindTanker {i : Slot} {x : Tanker} (hx : s.ret.tankers[i] = some x) (free : x.binding = none) (p : Position) :
    (s.bindTanker p i x).Fills :=
  g.rebind hx (fun _ hr => g.unlisted hx (by simp [free]) hr) rfl rfl rfl rfl

/-- A tanker leaves the rack only with none of its compartments FILLING (R15). -/
theorem unbindTanker {p : Position} {i : Slot} {x : Tanker} (hp : s.binding p = some i)
    (hx : s.ret.tankers[i] = some x) (may : s.anyOfTanker x (undockRefusedBy p) = false) :
    (s.unbindTanker p i x).Fills := by
  refine g.rebind hx (fun r hr hin => ?_) rfl rfl rfl rfl
  obtain ⟨-, -, -, -, -, bound, -⟩ := g.wash.table g.wash.marker
  obtain ⟨y, hy, q, hq, place⟩ := bound p.index i hp
  cases hx.symm.trans hy
  cases Position.index_injective _ _ place
  cases hq.symm.trans ((g.wash.ownerBinding_of_listed hx hin).symm.trans (g.fills.bound r hr))
  obtain ⟨c, hc, filling⟩ := State.inState_iff.mp ((g.fills.filling r).mpr hr)
  have refused := (State.anyOfTanker_iff x (undockRefusedBy .rack)).mpr ⟨r, hin, c, hc, by rw [filling]; rfl⟩
  rw [may] at refused
  cases refused

/-- A departing tanker is bound nowhere, so none of the records freed is FILLING (R11). -/
theorem depart {i : Slot} {x : Tanker} (hx : s.ret.tankers[i] = some x) (free : x.binding = none) :
    (s.depart i x).Fills := by
  have unlisted {r : RecordRef} := g.unlisted (r := r) hx (by simp [free])
  rw [State.depart_eq]
  refine g.fills.of_owners rfl (fun r => ?_) (fun _ => rfl) fun r hr => ?_
  · rw [State.inState_eq, table_foldl_set]
    split
    next hin => exact (Bool.eq_false_iff.mpr fun hf => unlisted ((g.fills.filling r).mp hf) hin).symm
    · rw [State.inState_eq]
  · refine State.ownerBinding_of_unlisted (i := i) (o := none) rfl (fun y hy => ?_) fun y hy => by cases hy
    cases hx.symm.trans hy
    exact unlisted hr

/-- A tanker taken in lists records that were free (R10). -/
theorem admitTanker {i : Slot} (hi : s.ret.tankers[i] = none) (token : List Byte) (cs : List (Nat × List ClassNo)) :
    (s.admitTanker i token cs).Fills := by
  obtain ⟨-, free, -⟩ := g.wash.table g.wash.marker
  have unused {r : RecordRef} (hr : r ∈ s.ret.freeList.take cs.length) : s.inState r .filling = false := by
    rw [State.inState_eq, Option.isNone_iff_eq_none.mp ((free r).mpr (List.mem_of_mem_take hr))]
    rfl
  have listed : State.Fills { s with ret := { s.ret with
      tankers := s.ret.tankers.set i (some ⟨token, s.ret.clock, s.ret.freeList.take cs.length, none⟩)
      freeList := s.ret.freeList.drop cs.length } } := by
    refine g.fills.of_owners rfl (fun _ => rfl) (fun _ => rfl) fun r hr => ?_
    refine State.ownerBinding_of_unlisted rfl (fun y hy => ?_) fun y hy hin => ?_
    · rw [hi] at hy
      cases hy
    · cases hy
      have filling := (g.fills.filling r).mpr hr
      rw [unused hin] at filling
      cases filling
  exact listed.of_view (State.admitRecords_fillView _ 0 _ fun x hx => unused (List.of_mem_zip hx).1)

end State.FillGround

end Sys2Proof.Machine
end

section
/-! # Every step keeps the law of the rack fill unit -/

namespace Sys2Proof.Machine

variable {s t : State}

namespace State.FillGround

variable (g : s.FillGround) (p : Port) (body : List Byte)

include g

theorem ownFillStart : (ownFillStart p body s).1.Fills := by
  unfold Machine.ownFillStart
  split
  · split
    · exact g.fills
    next hx => exact g.fillStartOn hx _ _
  · exact g.fills

theorem ownFillEnd : (ownFillEnd p body s).1.Fills := by
  unfold Machine.ownFillEnd
  split
  · split
    · exact g.fills
    next hx => exact g.fillEndOn (State.record_of_nameBound hx) _
  · exact g.fills

theorem ownFillAbort : (ownFillAbort p body s).1.Fills := by
  unfold Machine.ownFillAbort
  split
  · split
    · exact g.fills
    next hx => exact g.fillAbortOn (State.record_of_nameBound hx)
  · exact g.fills

theorem ownResume : (ownResume p body s).1.Fills := by
  unfold Machine.ownResume
  split
  · exact g.fills.resumeAt _
  · split
    · exact g.fills
    · exact g.fills.resumeAt _
  · exact g.fills

theorem ownAdmit : (ownAdmit p body s).1.Fills := by
  unfold Machine.ownAdmit
  split
  · exact g.fills
  · split
    · exact g.fills
    · split
      · exact g.fills
      · split
        · split
          · exact g.fills
          · split
            · exact g.fills
            · split
              · exact g.fills
              next hi =>
                split
                · exact g.fills
                · exact g.admitTanker (State.of_freeSlot hi) _ _
        · exact g.fills

theorem ownDepart : (ownDepart p body s).1.Fills := by
  unfold Machine.ownDepart
  split
  · split
    · exact g.fills
    next hx =>
      split_ifs with bound
      · exact g.fills
      · exact g.fills
      · exact g.depart (State.of_tankerAt hx).2 (by simpa using bound)
  · exact g.fills

theorem ownDock : (ownDock p body s).1.Fills := by
  unfold Machine.ownDock
  split
  · exact g.fills
  · split
    · exact g.fills
    · split
      · exact g.fills
      next hx =>
        unfold dockAt
        split_ifs with _ busy
        · exact g.fills
        · exact g.fills
        · exact g.fills
        · exact g.bindTanker hx (by simpa using (not_or.mp busy).1) _

theorem ownUndock : (ownUndock p body s).1.Fills := by
  unfold Machine.ownUndock
  split
  · exact g.fills
  · split
    · exact g.fills
    next hx =>
      obtain ⟨hp, hi⟩ := State.of_boundTanker hx
      split
      · exact g.fills
      next may => exact g.unbindTanker hp hi (by simpa using may)

/-- The owner of each kind keeps the law. -/
theorem owner (k : Kind) : (owner k p body s).1.Fills := by
  by_cases hk : k.besideTheFill = true
  · exact g.fills.of_view (owner_fillView p body hk)
  cases k <;> try exact absurd rfl hk
  case fillStart => exact g.ownFillStart p body
  case fillEnd => exact g.ownFillEnd p body
  case fillAbort => exact g.ownFillAbort p body
  case resume => exact g.ownResume p body
  case admitTanker => exact g.ownAdmit p body
  case depart => exact g.ownDepart p body
  case dock => exact g.ownDock p body
  case undock => exact g.ownUndock p body

omit p body in
/-- A port's command keeps the law. -/
theorem throughPort (through : s.ThroughPort t) : t.Fills := by
  cases through with
  | still same => exact g.fills.of_view same.fillView
  | served u p f before after =>
    have g' := g.of_ports before
    refine State.Fills.of_view ?_ after.fillView
    obtain same | ⟨k, -, same⟩ := serve_cases p f u <;> rw [same]
    · exact g'.fills
    · exact g'.owner p f.body k

end State.FillGround

/-- The part does nothing without main power (R168). -/
theorem whenPowered_fillLaw {f : State → State} (law : s.FillLaw) (hf : s.mainPower = true → (f s).Fills) :
    (whenPowered s f).FillLaw := by
  unfold whenPowered
  split
  next hp => exact State.fillLaw_iff.mpr fun _ => hf hp
  · exact law

/-- Every command completes and keeps the law, from a state that keeps what the law rests on. -/
theorem exec_fillLaw (law : s.FillLaw) (ground : s.mainPower = true → s.FillGround) (records : s.RecordLaw)
    (i : Instr) : ∃ t, exec i s = .next t ∧ t.FillLaw := by
  have powered {f : State → State} (hf : s.FillGround → (f s).Fills) : (whenPowered s f).FillLaw :=
    whenPowered_fillLaw law fun hp => hf (ground hp)
  have stays {f : State → State} (view : (f s).fillView = s.fillView) : (whenPowered s f).FillLaw :=
    powered fun g => g.fills.of_view view
  have port {f : State → State} (h : s.ThroughPort (f s)) : (whenPowered s f).FillLaw :=
    powered fun g => g.throughPort h
  cases h : i.request? with
  | some q =>
    rw [← requestOf_of_request h]
    exact ⟨_, exec_requestOf _ _ _ _ s, port (.frameCompletes _ s _)⟩
  | none =>
    cases i with
    | yardResetEffect =>
      refine ⟨_, rfl, powered fun g => ?_⟩
      split
      · exact g.fills
      · exact .start rfl (.recover records g.wash.marker)
    | coldStart =>
      refine ⟨_, rfl, ?_⟩
      split
      · exact State.fillLaw_iff.mpr fun _ => .start rfl (.coldStart s)
      · exact law
    | powerReturn =>
      refine ⟨_, rfl, ?_⟩
      split
      next returns => exact State.fillLaw_iff.mpr fun _ => .start rfl (.recover records returns.2)
      · exact law
    | mainPowerLoss =>
      refine ⟨_, rfl, ?_⟩
      unfold State.losePower
      split
      · exact fun hp => by cases hp
      · exact law
    | backupSupplyLoss =>
      refine ⟨_, rfl, ?_⟩
      unfold State.loseBackup
      split
      · exact law
      next off => exact fun hp => absurd hp off
    | yardClockSecond =>
      refine ⟨_, rfl, State.fillLaw_iff.mpr fun hp => ?_⟩
      have on : s.mainPower = true := s.clockSecond_sameWashes.power ▸ hp
      exact (ground on).fills.of_view s.clockSecond_fillView
    | requestByteReceived p x err => exact ⟨_, rfl, port (.receiveByte p s x err)⟩
    | interByteTimeout p => exact ⟨_, rfl, port (.gap p s)⟩
    | answerSendComplete p => exact ⟨_, rfl, port (.answerSent p s)⟩
    | scanConversion ch code => exact ⟨_, rfl, stays (s.convert_fillView ch code)⟩
    | pulseSample m level => exact ⟨_, rfl, stays (s.samplePulse_fillView m level)⟩
    | lineSample l level => exact ⟨_, rfl, stays (s.sampleLine_fillView l level)⟩
    | grant => exact ⟨_, rfl, stays s.grantStep_fillView⟩
    | accountingIntervalClose b => exact ⟨_, rfl, stays (s.closeInterval_fillView b)⟩
    | phaseTimerTick b => exact ⟨_, rfl, stays (s.phaseTick_fillView b)⟩
    | phaseTimerExpiry b => exact ⟨_, rfl, stays (s.phaseExpiry_fillView b)⟩
    | handoverTimerExpiry b | reEntryTimerExpiry b | holdTimerExpiry b =>
      exact ⟨_, rfl, stays (s.expire_fillView b _ _ (by simp) _)⟩
    | washHold b => exact ⟨_, rfl, stays (s.holdStep_fillView b)⟩
    | washResume b => exact ⟨_, rfl, stays (s.resumeStep_fillView b)⟩
    | fillStoppedMark => exact ⟨_, rfl, stays s.stoppedStep_fillView⟩
    | sweepTick b => exact ⟨_, rfl, stays (s.sweepStep_fillView b)⟩
    | releaseTimerCheck => exact ⟨_, rfl, stays s.timerCheck_fillView⟩
    | releaseLapse r => exact ⟨_, rfl, stays (s.lapseStep_fillView r)⟩
    | ageMillisecond => exact ⟨_, rfl, stays rfl⟩
    | _ => cases h

/-- Settles O19: every command keeps the law (`exec_fillLaw`); the other laws are used for the tanker a compartment
belongs to, and for the fill a FILLING record carries into a start. -/
theorem stepKeepsFillLaw : Obligations.StepKeepsFillLaw := by
  intro s t sound hstep
  unfold step at hstep
  split at hstep
  · cases hstep
    exact sound.filling
  next i rest _ =>
    have ground (hp : s.mainPower = true) : ({ s with pending := rest } : State).FillGround :=
      ⟨(sound.washGround hp).of_same rfl rfl rfl rfl, (sound.fillGround hp).fills.of_view rfl⟩
    obtain ⟨u, hu, law⟩ := exec_fillLaw (s := { s with pending := rest }) sound.filling ground sound.records i
    cases hu.symm.trans hstep
    exact law

end Sys2Proof.Machine
end

section
/-! # Each attention line follows its two sets (R161)

The law reads the notices only. A port's notices are written by the hand-over of a reference (R8, R157), by a line that
joins or leaves a pending set (R149, R155, R160), by EVENTS, by DEPART, by a start and by a loss of power; each writes
them settled, with the attention line computed from the sets. Every other operation leaves the notices as they are. -/

namespace Sys2Proof.Machine

variable {s t : State}

namespace State.AttentionLaw

/-- The law passes to a state with the same notices. -/
theorem of_notices (h : s.AttentionLaw) (same : t.act.notices = s.act.notices) : t.AttentionLaw := by
  intro j
  rw [same]
  exact h j

section

variable (h : s.AttentionLaw)

include h

/-! ## What writes notices -/

theorem setNotice (p : Port) (lines : LineSet) (changed : RefSet) : (s.setNotice p lines changed).AttentionLaw := by
  intro j
  rw [State.setNotice_notices, table_set]
  split
  · rfl
  · exact h j

theorem markChanged (p : Port) (r : RecordRef) : (s.markChanged p r).AttentionLaw := h.setNotice p _ _

theorem addPending (p : Port) (l : Line) : (s.addPending p l).AttentionLaw := h.setNotice p _ _

theorem dropPending (p : Port) (l : Line) : (s.dropPending p l).AttentionLaw := h.setNotice p _ _

theorem notify (r : RecordRef) : (s.notify r).AttentionLaw := by
  unfold State.notify
  split
  · exact (h.markChanged .office r).markChanged _ r
  · exact h.markChanged .office r

theorem changeRecord (r : RecordRef) (c : Compartment) : (s.changeRecord r c).AttentionLaw :=
  notify (s := s.setRecord r (some c)) h r

/-- A record changed after moves that leave the notices as they are. -/
theorem thenChange (same : t.act.notices = s.act.notices) (r : RecordRef) (c : Compartment) :
    (t.changeRecord r c).AttentionLaw := (h.of_notices same).changeRecord r c

theorem transition (r : RecordRef) (expected : List CState) (f : Compartment → Compartment) :
    (s.transition r expected f).AttentionLaw := by
  obtain ⟨c, -, -, taken⟩ | ⟨-, stands⟩ := s.transition_cases r expected f
  · rw [taken]
    exact h.changeRecord r _
  · rw [stands]
    exact h

/-- A fold of moves that each keep the law keeps it. -/
theorem foldl {α : Type} {f : State → α → State} (hf : ∀ s x, s.AttentionLaw → (f s x).AttentionLaw) (xs : List α) :
    (xs.foldl f s).AttentionLaw := by
  induction xs generalizing s with
  | nil => exact h
  | cons x xs ih => exact ih (hf s x h)

/-! ## The wash cycle -/

variable (b : Bay) (r : RecordRef) (c : Compartment)

theorem endWash (n : Note) : (s.endWash b r c n).AttentionLaw := h.thenChange (by simp) r _

theorem stopWash (n : Note) : (s.stopWash r c n).AttentionLaw := by
  unfold State.stopWash
  split
  · exact h.endWash _ r c n
  · exact h.changeRecord r _

theorem enterQueued (p : Progress) (ph : Phase) : (s.enterQueued b r c p ph).AttentionLaw := h.thenChange (by rfl) r _

theorem completePhase (p : Progress) (ph : Phase) : (s.completePhase b r c p ph).AttentionLaw := by
  unfold State.completePhase
  simp only
  split
  · exact h.thenChange (by rfl) r _
  · exact h.thenChange (by rfl) r _

theorem grantStep : s.grantStep.AttentionLaw := by
  unfold State.grantStep
  split
  · exact h
  · split
    · exact h
    · split
      · split
        · exact h.thenChange (by rfl) _ _
        · exact h
      · exact h

theorem expire (runs : Bool) (stopped : WashUnit) (y : CState) (n : Note) :
    (s.expire b runs stopped y n).AttentionLaw := by
  unfold State.expire
  split
  · split
    · exact h
    · split
      · exact h
      · split
        · exact h.endWash b _ _ n
        · exact h
  · exact h

theorem phaseTick : (s.phaseTick b).AttentionLaw := by
  unfold State.phaseTick
  split
  · exact h
  · split
    · exact h
    · exact h

theorem phaseExpiry : (s.phaseExpiry b).AttentionLaw := by
  unfold State.phaseExpiry
  split
  · exact h
  · split
    · exact h.endWash b _ _ _
    · exact h

theorem holdStep : (s.holdStep b).AttentionLaw := by
  unfold State.holdStep
  simp only
  split
  · exact h
  · split
    · exact h
    · split
      · exact h
      · split
        · exact h.thenChange (by simp) _ _
        · exact h

theorem resumeStep : (s.resumeStep b).AttentionLaw := by
  unfold State.resumeStep
  simp only
  split
  · exact h
  · split
    · exact h
    · split
      · exact h
      · split_ifs
        · exact h.thenChange (by rfl) _ _
        · split
          · exact h.enterQueued b _ _ _ _
          · exact h
        · exact h

theorem closeInterval : (s.closeInterval b).AttentionLaw := by
  unfold State.closeInterval
  simp only
  split
  · exact h
  · split_ifs
    · exact h.completePhase b _ _ _ _
    · exact h
    · exact h

theorem conductivitySample (sample : Option Nat) : (s.conductivitySample b sample).AttentionLaw := by
  have sampled (u : WashUnit) : (s.setUnit b u).AttentionLaw := h
  unfold State.conductivitySample
  split
  · exact h
  · split
    · exact h
    · simp only
      split
      · exact (sampled _).completePhase b _ _ _ _
      · exact h

/-! ## Lapses, the rack and the instruments -/

theorem lapse : (s.lapse r).AttentionLaw := h.transition r _ _

theorem lapseAll : s.lapseAll.AttentionLaw := h.foldl (fun _ r h => h.lapse r) _

theorem timerCheck : s.timerCheck.AttentionLaw := by
  unfold State.timerCheck
  split
  · exact h
  · exact h

theorem lapseStep : (s.lapseStep r).AttentionLaw := by
  have taken : { s with act := { s.act with lapsesDue := s.act.lapsesDue.set r false } }.AttentionLaw := h
  unfold State.lapseStep
  split
  · exact taken.lapse r
  · exact h

theorem rackPulse : s.rackPulse.AttentionLaw := by
  have joined (b : Bool) : (if b then s.joinOverfill else s).act.notices = s.act.notices := by split <;> rfl
  unfold State.rackPulse
  split
  · exact h
  · split
    · exact h
    · split
      · simp only
        split
        · exact h.thenChange (by exact joined _) _ _
        · exact h.of_notices (joined _)
      · exact h

theorem stoppedStep : s.stoppedStep.AttentionLaw := by
  have sent (u : FillUnit) : (s.setFillUnit u).AttentionLaw := h
  unfold State.stoppedStep
  split
  · simp only
    split
    · exact h
    · exact (sent _).transition _ _ _
  · exact h

theorem bayPulse : (s.bayPulse b).AttentionLaw := by
  unfold State.bayPulse
  simp only
  split
  · exact h
  · exact h

theorem samplePulse (m : Position) (level : Level) : (s.samplePulse m level).AttentionLaw := by
  have sampled (c : PulseChannel) : (s.setPulse m c).AttentionLaw := h
  unfold State.samplePulse
  simp only
  split
  · cases m with
    | bay b => exact (sampled _).bayPulse b
    | rack => exact (sampled _).rackPulse
  · exact h

theorem sweepStep : (s.sweepStep b).AttentionLaw := by
  unfold State.sweepStep
  simp only
  split
  · exact h
  · exact h

theorem deliverSample (ch : Probe) (sample : Option Nat) : (s.deliverSample ch sample).AttentionLaw := by
  unfold State.deliverSample State.supplySample
  split_ifs
  · split
    · exact h
    · exact h
  · exact h
  · exact h.conductivitySample _ sample

theorem convert (ch : Probe) (code : Code) : (s.convert ch code).AttentionLaw := by
  have slotted (next : Probe) (x : SampleSlot) :
      ({ s with act := { s.act with scanNext := next } }.setSlot ch x).AttentionLaw := h
  unfold State.convert
  split
  · exact (slotted _ _).deliverSample ch _
  · exact h

/-! ## Lines and settings -/

variable (l : Line)

/-- A line's action leaves the notices alone; then the line joins the pending sets of the ports notified (R149). -/
theorem lineBecomesActive (e : Route) : (s.lineBecomesActive l e).AttentionLaw := by
  unfold State.lineBecomesActive
  split
  · exact h
  · have acted : (s.lineAction l e.action).AttentionLaw := h.of_notices (by rw [State.lineAction_eq])
    refine acted.foldl (fun t p ht => ?_) _
    split
    · exact ht.addPending p l
    · exact ht

theorem sampleLine (level : Level) : (s.sampleLine l level).AttentionLaw := by
  have sampled (f : Filter) : (s.setLine l f).AttentionLaw := h
  unfold State.sampleLine
  simp only
  split_ifs
  · exact (sampled _).lineBecomesActive l _
  · exact h
  · exact h

theorem trimPending (old new : PortSet) : (s.trimPending l old new).AttentionLaw := by
  refine h.foldl (fun t p ht => ?_) _
  split
  · exact ht.dropPending p l
  · exact ht

theorem reroute (e : Route) : (s.reroute l e).AttentionLaw := by
  have stored : (s.setRoute l e).AttentionLaw := h
  have trimmed := stored.trimPending l (s.ret.routes[l]).notify e.notify
  have blocked (m : Bool) :
      (((s.setRoute l e).trimPending l (s.ret.routes[l]).notify e.notify).setBlockLine l m).AttentionLaw := trimmed
  unfold State.reroute
  simp only
  split
  · exact (blocked _).lineBecomesActive l e
  · exact blocked _

theorem settingEffect (i : Fin 25) (v : Nat) : (s.settingEffect i v).AttentionLaw := by
  unfold State.settingEffect
  split
  · exact h
  · split
    · exact h
    · simp only
      split
      · exact h
      · exact h

/-! ## Tankers -/

theorem admitRecords (n : Nat) (xs : List (RecordRef × Nat × List ClassNo)) : (s.admitRecords n xs).AttentionLaw := by
  induction xs generalizing s n with
  | nil => exact h
  | cons x xs ih => exact ih (h.changeRecord _ _) (n + 1)

omit h in
/-- A departure writes every port's notices anew (R11). -/
theorem depart (i : Slot) (x : Tanker) : (s.depart i x).AttentionLaw := by
  intro j
  simp only [State.depart, mapTable_eq_map, Fin.getElem_fin, Vector.getElem_map]
  rfl

end

/-! ## The starts and the losses -/

/-- A start settles the office's notices with the records its mapping changed, and empties the others (R157, R170). -/
theorem started {r : Retained} {changed : RefSet} (act : s.act = Active.start r changed) : s.AttentionLaw := by
  intro j
  rw [act, Active.start_notices]
  split
  · rfl
  · rfl

/-- Without main power nothing is unread and every attention line is released (R167, log entry 4). -/
theorem losePower (h : s.AttentionLaw) : s.losePower.AttentionLaw := by
  unfold State.losePower
  split
  · intro j
    simp only [Active.unpowered, Fin.getElem_fin, Vector.getElem_replicate]
    rfl
  · exact h

theorem loseBackup (h : s.AttentionLaw) : s.loseBackup.AttentionLaw := by
  unfold State.loseBackup
  split
  · exact h
  · exact h

end State.AttentionLaw

end Sys2Proof.Machine
end

section
/-! # No request leaves an attention line behind its sets

An owner that refuses changes nothing; one that acts writes through the operations above. -/

namespace Sys2Proof.Machine

variable {s t : State} (h : s.AttentionLaw)

include h

/-! ## On a compartment named -/

section

variable (x : Named)

theorem setIntentOn_attentionLaw (intent : Nat) : (setIntentOn x intent s).1.AttentionLaw := by
  have written (k : ClassNo) (d : Demand) (program : Option ProgramNo) : (s.retarget x k d program).AttentionLaw := by
    unfold State.retarget
    simp only
    split
    · exact h
    · exact h.changeRecord _ _
  unfold setIntentOn
  split
  · exact h
  · split
    · exact h
    · split
      exacts [h, h, h, written _ _ _]

theorem startWashOn_attentionLaw (b : Bay) : (startWashOn b x s).1.AttentionLaw := by
  unfold startWashOn
  split_ifs
  · exact h
  · exact h
  · exact h
  · split
    exacts [h, h.enterQueued b _ _ _ _]

theorem phaseGoOn_attentionLaw : (phaseGoOn x s).1.AttentionLaw := by
  unfold phaseGoOn
  split
  · split
    exacts [h, h.enterQueued _ _ _ _ _]
  · exact h

theorem inspectPassOn_attentionLaw (inspector : Nat) : (inspectPassOn x inspector s).1.AttentionLaw := by
  have advanced : s.advanceCertificate.AttentionLaw := h
  unfold inspectPassOn
  split_ifs
  · exact h
  · exact h
  · split
    exacts [advanced.changeRecord _ _, h]

theorem inspectFailOn_attentionLaw (flag : Nat) : (inspectFailOn x flag s).1.AttentionLaw := by
  unfold inspectFailOn
  split_ifs
  exacts [h, h, h.changeRecord _ _]

/-- FILL-START is refused, lapses an overdue release, or opens a fill (R133, R134). -/
theorem fillStartOn_attentionLaw (cargo preset : Nat) : (fillStartOn x cargo preset s).1.AttentionLaw := by
  unfold fillStartOn State.openFill
  split
  · exact h
  · split
    · exact h
    · split
      · split_ifs
        exacts [h.lapse _, h, h, h.thenChange (by rfl) _ _]
      · exact h

theorem fillEndOn_attentionLaw (litres : Nat) : (fillEndOn x litres s).1.AttentionLaw := by
  unfold fillEndOn
  split
  exacts [h.thenChange (by rfl) _ _, h]

theorem fillAbortOn_attentionLaw : (fillAbortOn x s).1.AttentionLaw := by
  unfold fillAbortOn
  split
  · split
    exacts [h.thenChange (by rfl) _ _, h.thenChange (by rfl) _ _]
  · exact h

end

/-! ## The owners -/

variable (p : Port) (body : List Byte)

theorem ownAckLine_attentionLaw : (ownAckLine p body s).1.AttentionLaw := by
  unfold ownAckLine
  split
  · split
    · exact h
    · split
      exacts [h.addPending p _, h.dropPending p _]
  · exact h

theorem ownResume_attentionLaw : (ownResume p body s).1.AttentionLaw := by
  have resumed (pos : Position) : (resumeAt pos s).1.AttentionLaw := by
    unfold resumeAt
    split
    exacts [h, h]
  unfold ownResume
  split
  · exact resumed _
  · split
    exacts [h, resumed _]
  · exact h

theorem ownAdmit_attentionLaw : (ownAdmit p body s).1.AttentionLaw := by
  have taken (i : Slot) (token : List Byte) (cs : List (Nat × List ClassNo)) :
      (s.admitTanker i token cs).AttentionLaw := State.AttentionLaw.admitRecords (by exact h) 0 _
  unfold ownAdmit
  split
  · exact h
  · split
    · exact h
    · split
      · exact h
      · split
        · split
          · exact h
          · split
            · exact h
            · split
              · exact h
              · split
                exacts [h, taken _ _ _]
        · exact h

theorem ownDepart_attentionLaw : (ownDepart p body s).1.AttentionLaw := by
  unfold ownDepart
  split
  · split
    · exact h
    · split_ifs
      exacts [h, h, .depart _ _]
  · exact h

theorem ownSetIntent_attentionLaw : (ownSetIntent p body s).1.AttentionLaw := by
  unfold ownSetIntent
  split
  · split
    exacts [h, setIntentOn_attentionLaw h _ _]
  · exact h

theorem ownEmptied_attentionLaw : (ownEmptied p body s).1.AttentionLaw := by
  unfold ownEmptied
  split
  · split
    · exact h
    · split
      exacts [h, h.changeRecord _ _]
  · exact h

theorem ownVoidRelease_attentionLaw : (ownVoidRelease p body s).1.AttentionLaw := by
  unfold ownVoidRelease
  split
  · split
    · exact h
    · split
      exacts [h, h.changeRecord _ _]
  · exact h

theorem ownCancelWash_attentionLaw : (ownCancelWash p body s).1.AttentionLaw := by
  unfold ownCancelWash
  split
  · split
    · exact h
    · split
      exacts [h.stopWash _ _ _, h]
  · exact h

theorem ownAbortWash_attentionLaw : (ownAbortWash p body s).1.AttentionLaw := by
  unfold ownAbortWash
  split
  · split
    · exact h
    · split
      exacts [h.stopWash _ _ _, h]
  · exact h

theorem ownStartWash_attentionLaw : (ownStartWash p body s).1.AttentionLaw := by
  unfold ownStartWash
  split
  · split
    exacts [h, startWashOn_attentionLaw h _ _]
  · exact h

theorem ownPhaseGo_attentionLaw : (ownPhaseGo p body s).1.AttentionLaw := by
  unfold ownPhaseGo
  split
  · split
    exacts [h, phaseGoOn_attentionLaw h _]
  · exact h

theorem ownInspectPass_attentionLaw : (ownInspectPass p body s).1.AttentionLaw := by
  unfold ownInspectPass
  split
  · split
    exacts [h, inspectPassOn_attentionLaw h _ _]
  · exact h

theorem ownInspectFail_attentionLaw : (ownInspectFail p body s).1.AttentionLaw := by
  unfold ownInspectFail
  split
  · split
    exacts [h, inspectFailOn_attentionLaw h _ _]
  · exact h

theorem ownFillStart_attentionLaw : (ownFillStart p body s).1.AttentionLaw := by
  unfold ownFillStart
  split
  · split
    exacts [h, fillStartOn_attentionLaw h _ _ _]
  · exact h

theorem ownFillEnd_attentionLaw : (ownFillEnd p body s).1.AttentionLaw := by
  unfold ownFillEnd
  split
  · split
    exacts [h, fillEndOn_attentionLaw h _ _]
  · exact h

theorem ownFillAbort_attentionLaw : (ownFillAbort p body s).1.AttentionLaw := by
  unfold ownFillAbort
  split
  · split
    exacts [h, fillAbortOn_attentionLaw h _]
  · exact h

theorem ownWriteRoute_attentionLaw : (ownWriteRoute p body s).1.AttentionLaw := by
  unfold ownWriteRoute
  split
  · split
    · split
      exacts [h, h.reroute _ _]
    · exact h
  · exact h

theorem ownWriteSetting_attentionLaw : (ownWriteSetting p body s).1.AttentionLaw := by
  have stored (i : Fin 25) (v : Nat) : (s.storeSetting i v).AttentionLaw := h
  unfold ownWriteSetting
  split
  · split
    exacts [h, (stored _ _).settingEffect _ _]
  · exact h

theorem ownOpenYard_attentionLaw : (ownOpenYard p body s).1.AttentionLaw := by
  have opened : s.openMode.AttentionLaw := h
  unfold ownOpenYard
  split
  exacts [h, opened.lapseAll]

/-- The kinds that write a table, the clock, a binding or the free counter, and nothing of the active domain. -/
def Kind.besideTheActive : Kind → Bool
  | .writeClass | .writeProgram | .writeFollow | .readRoute | .setClock | .dock | .undock => true
  | _ => false

omit h in
/-- The owner of such a kind leaves the active domain as it is. -/
theorem owner_act {k : Kind} (hk : k.besideTheActive = true) : (owner k p body s).1.act = s.act := by
  cases k <;> try cases hk
  case dock => exact (ownDock_frame p body).1
  case undock => exact (ownUndock_frame p body).1
  case writeClass =>
    change (ownWriteClass p body s).1.act = s.act
    unfold ownWriteClass
    repeat' split
    all_goals rfl
  case writeProgram =>
    change (ownWriteProgram p body s).1.act = s.act
    unfold ownWriteProgram
    repeat' split
    all_goals rfl
  case writeFollow =>
    change (ownWriteFollow p body s).1.act = s.act
    unfold ownWriteFollow
    repeat' split
    all_goals rfl
  case readRoute =>
    change (ownReadRoute p body s).1.act = s.act
    unfold ownReadRoute
    repeat' split
    all_goals rfl
  case setClock =>
    change (ownSetClock p body s).1.act = s.act
    unfold ownSetClock
    split
    all_goals rfl

/-- The owner of each kind keeps the law. -/
theorem owner_attentionLaw (k : Kind) : (owner k p body s).1.AttentionLaw := by
  by_cases hr : k.reports = true
  · rw [owner_of_reports p body hr]
    exact h
  by_cases ha : k.besideTheActive = true
  · exact h.of_notices (by rw [owner_act p body ha])
  have writes : ¬ (k.reports || k.besideTheActive) = true := by simp [hr, ha]
  cases k <;> try exact absurd rfl writes
  case events => exact h.setNotice p _ _
  case yardReset => exact h
  case ackLine => exact ownAckLine_attentionLaw h p body
  case resume => exact ownResume_attentionLaw h p body
  case admitTanker => exact ownAdmit_attentionLaw h p body
  case depart => exact ownDepart_attentionLaw h p body
  case setIntent => exact ownSetIntent_attentionLaw h p body
  case emptied => exact ownEmptied_attentionLaw h p body
  case voidRelease => exact ownVoidRelease_attentionLaw h p body
  case cancelWash => exact ownCancelWash_attentionLaw h p body
  case startWash => exact ownStartWash_attentionLaw h p body
  case phaseGo => exact ownPhaseGo_attentionLaw h p body
  case abortWash => exact ownAbortWash_attentionLaw h p body
  case inspectPass => exact ownInspectPass_attentionLaw h p body
  case inspectFail => exact ownInspectFail_attentionLaw h p body
  case fillStart => exact ownFillStart_attentionLaw h p body
  case fillEnd => exact ownFillEnd_attentionLaw h p body
  case fillAbort => exact ownFillAbort_attentionLaw h p body
  case writeRoute => exact ownWriteRoute_attentionLaw h p body
  case writeSetting => exact ownWriteSetting_attentionLaw h p body
  case openYard => exact ownOpenYard_attentionLaw h p body

/-- A port's command keeps the law. -/
theorem State.ThroughPort.attentionLaw (through : s.ThroughPort t) : t.AttentionLaw := by
  have ports {u v : State} (hu : u.AttentionLaw) (same : u.SameButPorts v) : v.AttentionLaw :=
    hu.of_notices (by rw [same.act])
  cases through with
  | still same => exact ports h same
  | served u p f before after =>
    refine ports ?_ after
    obtain same | ⟨k, -, same⟩ := serve_cases p f u <;> rw [same]
    · exact ports h before
    · exact owner_attentionLaw (ports h before) p f.body k

end Sys2Proof.Machine
end

section
/-! # Every step keeps the attention lines following their sets -/

namespace Sys2Proof.Machine

variable {s t : State}

/-- The part does nothing without main power (R168). -/
theorem whenPowered_attentionLaw {f : State → State} (h : s.AttentionLaw) (hf : (f s).AttentionLaw) :
    (whenPowered s f).AttentionLaw := by
  unfold whenPowered
  split
  exacts [hf, h]

/-- Every command completes and keeps the law. -/
theorem exec_attentionLaw (h : s.AttentionLaw) (i : Instr) : ∃ t, exec i s = .next t ∧ t.AttentionLaw := by
  have powered {f : State → State} (hf : (f s).AttentionLaw) : (whenPowered s f).AttentionLaw :=
    whenPowered_attentionLaw h hf
  have port {f : State → State} (through : s.ThroughPort (f s)) : (whenPowered s f).AttentionLaw :=
    powered (through.attentionLaw h)
  cases hi : i.request? with
  | some q =>
    rw [← requestOf_of_request hi]
    exact ⟨_, exec_requestOf _ _ _ _ s, port (.frameCompletes _ s _)⟩
  | none =>
    cases i with
    | yardResetEffect =>
      refine ⟨_, rfl, powered ?_⟩
      split
      exacts [h, .started rfl]
    | coldStart | powerReturn =>
      refine ⟨_, rfl, ?_⟩
      split
      exacts [.started rfl, h]
    | mainPowerLoss => exact ⟨_, rfl, h.losePower⟩
    | backupSupplyLoss => exact ⟨_, rfl, h.loseBackup⟩
    | yardClockSecond =>
      refine ⟨_, rfl, ?_⟩
      unfold State.clockSecond
      split
      exacts [h, h]
    | requestByteReceived p x err => exact ⟨_, rfl, port (.receiveByte p s x err)⟩
    | interByteTimeout p => exact ⟨_, rfl, port (.gap p s)⟩
    | answerSendComplete p => exact ⟨_, rfl, port (.answerSent p s)⟩
    | scanConversion ch code => exact ⟨_, rfl, powered (h.convert ch code)⟩
    | pulseSample m level => exact ⟨_, rfl, powered (h.samplePulse m level)⟩
    | lineSample l level => exact ⟨_, rfl, powered (h.sampleLine l level)⟩
    | grant => exact ⟨_, rfl, powered h.grantStep⟩
    | accountingIntervalClose b => exact ⟨_, rfl, powered (h.closeInterval b)⟩
    | phaseTimerTick b => exact ⟨_, rfl, powered (h.phaseTick b)⟩
    | phaseTimerExpiry b => exact ⟨_, rfl, powered (h.phaseExpiry b)⟩
    | handoverTimerExpiry b | reEntryTimerExpiry b | holdTimerExpiry b =>
      exact ⟨_, rfl, powered (h.expire b _ _ _ _)⟩
    | washHold b => exact ⟨_, rfl, powered (h.holdStep b)⟩
    | washResume b => exact ⟨_, rfl, powered (h.resumeStep b)⟩
    | fillStoppedMark => exact ⟨_, rfl, powered h.stoppedStep⟩
    | sweepTick b => exact ⟨_, rfl, powered (h.sweepStep b)⟩
    | releaseTimerCheck => exact ⟨_, rfl, powered h.timerCheck⟩
    | releaseLapse r => exact ⟨_, rfl, powered (h.lapseStep r)⟩
    | ageMillisecond => exact ⟨_, rfl, powered h⟩
    | _ => cases hi

/-- Settles O10: a step runs the command at the front of the queue, and every command keeps the law
(`exec_attentionLaw`). -/
theorem stepKeepsAttentionLaw : Obligations.StepKeepsAttentionLaw := by
  intro s t law hstep
  unfold step at hstep
  split at hstep
  · cases hstep
    exact law
  next i rest _ =>
    obtain ⟨u, hu, kept⟩ := exec_attentionLaw (s := { s with pending := rest }) law i
    cases hu.symm.trans hstep
    exact kept

end Sys2Proof.Machine
end

section
/-! # RESUME (R152) -/

namespace Sys2Proof.Machine

variable {s : State}

theorem State.activeLines_get (s : State) (l : Line) : s.activeLines[l] = s.lineActive l := by
  simp [State.activeLines, State.lineActive]

/-- The lines of a hold set that are still active. -/
theorem State.stillActive_eq (s : State) (pos : Position) :
    s.stillActive pos = Vector.ofFn (fun l : Line => (s.hold pos).lines[l] && s.lineActive l) :=
  table_ofFn _ _ fun l => by rw [State.stillActive, bothOf_get, State.activeLines_get]

theorem State.anyOf_stillActive_iff (s : State) (pos : Position) : anyOf (s.stillActive pos) = true
    ↔ ∃ l : Line, (s.hold pos).lines[l] = true ∧ s.lineActive l = true := by
  simp only [anyOf_iff, State.stillActive, bothOf_get, State.activeLines_get, Bool.and_eq_true]

/-- The causes of a hold set: its lines, and OVERFILL (R151). -/
theorem HoldSet.count_eq (h : HoldSet) :
    h.count = (List.finRange 16).countP (fun l => h.lines[l]) + if h.overfill = true then 1 else 0 := by
  rw [HoldSet.count, countOf_eq_length_membersOf, membersOf, List.countP_eq_length_filter]
  cases h.overfill <;> rfl

/-- A position of a number beyond 1 to 5 does not exist. -/
theorem positionOf_eq_none {n : Nat} (h : n = 0 ∨ 5 < n) : positionOf n = none := by
  have noBay : bayOf n = none := dif_neg (by omega)
  rw [positionOf, if_neg (by omega), noBay]
  rfl

theorem positionOf_bay (b : Bay) : positionOf (b.val + 1) = some (.bay b) := by
  rw [positionOf, if_neg (by omega), bayOf_number]
  rfl

/-- From a position RESUME is its own. -/
theorem ownResume_position (pos : Position) (s : State) : ownResume pos.port [] s = resumeAt pos s := by
  cases pos <;> rfl

/-- From the office RESUME is of the position numbered. -/
theorem ownResume_office {n : Byte} {pos : Position} (h : positionOf n.toNat = some pos) (s : State) :
    ownResume .office [n] s = resumeAt pos s := by
  simp only [ownResume, Port.position, h]

/-- Settles O53: whose hold set it is by the port and the number sent, and HELD or the emptying by whether a line in
it is still active (`State.anyOf_stillActive_iff`). -/
theorem resumeEmptiesAHoldSet : Obligations.ResumeEmptiesAHoldSet := by
  intro tag s resumed
  have answers {p : Port} {body : List Byte} {pos : Position}
      (answered : ∀ {t : State} {r : Reply}, resumeAt pos s = (t, r) →
        exec (.resume p tag body) s = .next (t.replies p .resume tag r.code r.body)) : resumed p body pos := by
    unfold resumed
    intro active h
    have active_iff (l : Line) : s.lineActive l = true ↔ active l := s.lineActive_iff l
    refine ⟨fun ⟨l, held, on⟩ => ?_, fun off => ?_⟩
    · have still : anyOf (s.stillActive pos) = true :=
        (s.anyOf_stillActive_iff pos).mpr ⟨l, held, (active_iff l).mpr on⟩
      refine (answered (if_pos still)).trans ?_
      simp only [State.stillActive_eq, State.lineActive_eq]
      rfl
    · have none : ¬ anyOf (s.stillActive pos) = true := fun still => by
        obtain ⟨l, held, on⟩ := (s.anyOf_stillActive_iff pos).mp still
        exact off l held ((active_iff l).mp on)
      refine (answered (if_neg none)).trans ?_
      rw [HoldSet.count_eq]
      rfl
  have numbered {n : Byte} {pos : Position} (ready : s.Ready .office) (hn : positionOf n.toNat = some pos) :
      resumed .office [n] pos :=
    answers fun ho => exec_office (k := .resume) ready rfl rfl tag (body := [n]) rfl (by simp)
      ((ownResume_office hn s).trans ho)
  refine ⟨fun pos ready isOpen => answers fun ho => ?_, fun ready n => ⟨fun out => ?_, fun b hn => ?_, fun hn => ?_⟩⟩
  · have entry : catalogue pos.port .resume = some (entryOf 0 false) := by cases pos <;> rfl
    exact exec_owned ready .resume tag [] (by simp) (commonCheck_isOpen isOpen entry rfl (fun h => by cases h))
      ((ownResume_position pos s).trans ho)
  · exact exec_office (k := .resume) ready rfl rfl tag (body := [n]) rfl (by simp) (r := refuse .range)
      (by simp only [owner, ownResume, Port.position, positionOf_eq_none out])
  · exact numbered ready (by rw [hn, positionOf_bay])
  · exact numbered ready (by rw [hn]; rfl)

end Sys2Proof.Machine
end

section
/-! # EVENTS and ACK-LINE (R159, R160) -/

namespace Sys2Proof.Machine

variable {s : State}

/-- A reference to a record in use as EVENTS reports it (R159). -/
theorem State.eventBytes_eq {r : RecordRef} {c : Compartment} (h : s.ret.pool[r] = some c) :
    s.eventBytes r = byte1 r.val ++ byte1 c.state.code ++ byte1 (noteCode c.note) := by
  have record : s.record r = some c := h
  simp only [State.eventBytes, record]

/-- The conditions that put an acknowledged line back (R160). -/
theorem State.readds_iff (s : State) (p : Port) (l : Line) : s.readds p l = true
    ↔ (s.ret.routes[l]).trigger = .level ∧ (s.ret.routes[l]).masked = false
      ∧ (s.ret.routes[l]).notify[p.index] = true
      ∧ (s.act.lines[l]).accepted = if (s.ret.routes[l]).polarity = .activeLow then Level.low else Level.high := by
  simp only [State.readds, Bool.and_eq_true, beq_iff_eq, Bool.not_eq_true', State.lineActive_iff, and_assoc]

/-- A ready port gives a frame of a kind it takes in either mode, without a binding, to the kind's owner (R165). -/
theorem exec_eitherMode {t : State} {p : Port} (ready : s.Ready p) {k : Kind} {n : Nat}
    (entry : catalogue p k = some (entryOf n true)) (tag : Byte) {body : List Byte} (hl : body.length = n)
    (h240 : n ≤ 240) {r : Reply} (ho : owner k p body s = (t, r)) :
    exec (requestOf k p tag body) s = .next (t.replies p k tag r.code r.body) :=
  exec_owned ready k tag body (hl ▸ h240)
    (commonCheck_none entry (by simp [Entry.lengthOk, entryOf, hl]) (fun _ => rfl) (fun h => by cases h)) ho

/-- Settles O54: EVENTS reports each member of the changed set as its record stands (`State.eventBytes_eq`), and
ACK-LINE puts the line back on the conditions of R160 (`State.readds_iff`). -/
theorem eventsReadAndLinesAcknowledged : Obligations.EventsReadAndLinesAcknowledged := by
  intro p tag s ready n listed asked told report
  have acked {l : Byte} {t : State} {r : Reply} (ho : ownAckLine p [l] s = (t, r)) :
      exec (.ackLine p tag [l]) s = .next (t.replies p .ackLine tag r.code r.body) :=
    exec_eitherMode (k := .ackLine) (n := 1) ready (by cases p <;> rfl) tag (body := [l]) rfl (by omega) ho
  refine ⟨fun inUse => ?_, fun l out => ?_, fun l line hl => ?_⟩
  · have reported : ownEvents p [] s = (s.setNotice p n.pendingLines (noneOf 64), okay report) := by
      refine Prod.ext rfl (congrArg okay ?_)
      change byte1 s.act.mode.code ++ lineBytes n.pendingLines ++ byte1 (countOf n.changed)
        ++ told.flatMap s.eventBytes = report
      rw [YardMode.byte_eq, countOf_eq_length_membersOf]
      refine congrArg (_ ++ ·) (List.flatMap_congr fun r hr => ?_)
      obtain ⟨c, hc⟩ := Option.ne_none_iff_exists'.mp (inUse r ((mem_membersOf _ r).mp hr))
      rw [State.eventBytes_eq hc, hc]
      rfl
    exact exec_eitherMode (k := .events) (n := 0) ready (by cases p <;> rfl) tag (body := []) rfl (by omega) reported
  · exact acked (r := refuse .range) (by simp only [ownAckLine, lineOf_eq_none out])
  · intro e again
    have taken : ownAckLine p [l] s = if s.readds p line then (s.addPending p line, okay (byteFlag true))
        else (s.dropPending p line, okay (byteFlag false)) := by
      simp only [ownAckLine, hl, lineOf_val]
    exact ⟨fun back => acked (taken.trans (if_pos ((s.readds_iff p line).mpr back))),
      fun gone => acked (taken.trans (if_neg (mt (s.readds_iff p line).mp gone)))⟩

end Sys2Proof.Machine
end

section
/-! # No command reaches the queue of waiting commands, and an unpowered part stands (R167, R168; log entries 1, 11, 19)

The queue is the model's own, and no operation writes it: that is one lemma an operation, in the order of the chapters'
files. -/

namespace Sys2Proof.Machine

section

variable (s : State) (b : Bay) (r : RecordRef) (c : Compartment)

/-! ## Hand-overs, transition requests and folds -/

@[simp] theorem State.changeRecord_pending : (s.changeRecord r c).pending = s.pending := by
  obtain ⟨v, frame⟩ := s.changeRecord_frame r c
  rw [frame]

@[simp] theorem State.transition_pending (expected : List CState) (f : Compartment → Compartment) :
    (s.transition r expected f).pending = s.pending := by
  obtain ⟨c, -, -, h⟩ | ⟨-, h⟩ := s.transition_cases r expected f
  · rw [h, State.changeRecord_pending]
  · rw [h]

/-- A fold of moves that each leave the queue as it is. -/
theorem State.foldl_pending {α : Type} {f : State → α → State} (hf : ∀ (s : State) x, (f s x).pending = s.pending)
    (xs : List α) (s : State) : (xs.foldl f s).pending = s.pending := by
  induction xs generalizing s with
  | nil => rfl
  | cons x xs ih => exact (ih (f s x)).trans (hf s x)

/-! ## The wash cycle and the grant -/

@[simp] theorem State.leaveRunning_pending (shares : Nat) : (s.leaveRunning b shares).pending = s.pending := rfl

@[simp] theorem State.releaseLoop_pending : (s.releaseLoop b r c).pending = s.pending := by
  unfold State.releaseLoop
  split <;> rfl

@[simp] theorem State.endWash_pending (n : Note) : (s.endWash b r c n).pending = s.pending := by
  simp [State.endWash]

@[simp] theorem State.stopWash_pending (n : Note) : (s.stopWash r c n).pending = s.pending := by
  unfold State.stopWash
  split <;> simp

@[simp] theorem State.enterQueued_pending (p : Progress) (ph : Phase) :
    (s.enterQueued b r c p ph).pending = s.pending := by
  simp [State.enterQueued]

@[simp] theorem State.completePhase_pending (p : Progress) (ph : Phase) :
    (s.completePhase b r c p ph).pending = s.pending := by
  unfold State.completePhase
  simp only
  split <;> simp

@[simp] theorem State.takeGrant_pending (e : QueueEntry) (backfill : Bool) (p : Progress) (ph : Phase) :
    (s.takeGrant e backfill c p ph).pending = s.pending := by
  simp [State.takeGrant]

theorem State.grantStep_pending : s.grantStep.pending = s.pending := by
  unfold State.grantStep
  split
  · rfl
  · split
    · rfl
    · split
      · split
        · exact s.takeGrant_pending ..
        · rfl
      · rfl

theorem State.expire_pending (runs : Bool) (stopped : WashUnit) (x : CState) (n : Note) :
    (s.expire b runs stopped x n).pending = s.pending := by
  unfold State.expire
  split
  · split
    · rfl
    · split
      · rfl
      · split <;> simp
  · rfl

theorem State.phaseTick_pending : (s.phaseTick b).pending = s.pending := by
  unfold State.phaseTick
  split
  · rfl
  · split <;> rfl

theorem State.phaseExpiry_pending : (s.phaseExpiry b).pending = s.pending := by
  unfold State.phaseExpiry
  split
  · rfl
  · split <;> simp

theorem State.holdStep_pending : (s.holdStep b).pending = s.pending := by
  unfold State.holdStep
  simp only
  split
  · rfl
  · split
    · rfl
    · split
      · rfl
      · split <;> simp

theorem State.resumeStep_pending : (s.resumeStep b).pending = s.pending := by
  unfold State.resumeStep
  simp only
  split
  · rfl
  · split
    · rfl
    · split
      · rfl
      · split_ifs
        · simp
        · split <;> simp
        · rfl

theorem State.closeInterval_pending : (s.closeInterval b).pending = s.pending := by
  unfold State.closeInterval
  simp only
  split
  · rfl
  · split_ifs <;> simp

@[simp] theorem State.conductivitySample_pending (sample : Option Nat) :
    (s.conductivitySample b sample).pending = s.pending := by
  unfold State.conductivitySample
  split
  · rfl
  · split
    · rfl
    · simp only
      split <;> simp

/-! ## Lapses, the clock and the rack -/

@[simp] theorem State.lapse_pending : (s.lapse r).pending = s.pending := s.transition_pending r _ _

@[simp] theorem State.lapseAll_pending : s.lapseAll.pending = s.pending :=
  State.foldl_pending (fun s r => s.lapse_pending r) _ s

theorem State.timerCheck_pending : s.timerCheck.pending = s.pending := by
  unfold State.timerCheck
  split <;> rfl

theorem State.lapseStep_pending : (s.lapseStep r).pending = s.pending := by
  unfold State.lapseStep
  split
  · exact State.lapse_pending _ r
  · rfl

theorem State.clockSecond_pending : s.clockSecond.pending = s.pending := by
  unfold State.clockSecond
  split <;> rfl

theorem State.rackPulse_pending : s.rackPulse.pending = s.pending := by
  have joined (x : Bool) : (if x then s.joinOverfill else s).pending = s.pending := by split <;> rfl
  unfold State.rackPulse
  split
  · rfl
  · split
    · rfl
    · split
      · simp only
        split <;> simp [joined]
      · rfl

theorem State.stoppedStep_pending : s.stoppedStep.pending = s.pending := by
  unfold State.stoppedStep
  split
  · simp only
    split <;> simp
  · rfl

/-! ## Instruments -/

theorem State.bayPulse_pending : (s.bayPulse b).pending = s.pending := by
  unfold State.bayPulse
  simp only
  split <;> rfl

theorem State.samplePulse_pending (m : Position) (level : Level) : (s.samplePulse m level).pending = s.pending := by
  unfold State.samplePulse
  simp only
  split
  · cases m with
    | bay b => exact State.bayPulse_pending _ b
    | rack => exact State.rackPulse_pending _
  · rfl

theorem State.sweepStep_pending : (s.sweepStep b).pending = s.pending := by
  unfold State.sweepStep
  simp only
  split <;> rfl

@[simp] theorem State.supplySample_pending (sample : Option Nat) : (s.supplySample sample).pending = s.pending := by
  unfold State.supplySample
  split <;> rfl

@[simp] theorem State.deliverSample_pending (ch : Probe) (sample : Option Nat) :
    (s.deliverSample ch sample).pending = s.pending := by
  unfold State.deliverSample
  split_ifs <;> simp

theorem State.convert_pending (ch : Probe) (code : Code) : (s.convert ch code).pending = s.pending := by
  unfold State.convert
  split <;> simp

/-! ## Lines and settings -/

variable (l : Line)

@[simp] theorem State.lineBecomesActive_pending (e : Route) : (s.lineBecomesActive l e).pending = s.pending := by
  unfold State.lineBecomesActive
  split
  · rfl
  · rw [State.lineNotices_eq, State.lineAction_eq]

theorem State.sampleLine_pending (level : Level) : (s.sampleLine l level).pending = s.pending := by
  unfold State.sampleLine
  simp only
  split
  · split
    · exact State.lineBecomesActive_pending _ l _
    · rfl
  · rfl

@[simp] theorem State.reroute_pending (e : Route) : (s.reroute l e).pending = s.pending := by
  unfold State.reroute
  simp only [State.trimPending_eq]
  split
  · exact State.lineBecomesActive_pending _ l e
  · rfl

@[simp] theorem State.settingEffect_pending (i : Fin 25) (v : Nat) : (s.settingEffect i v).pending = s.pending := by
  unfold State.settingEffect
  split
  · rfl
  · split
    · rfl
    · simp only
      split <;> rfl

/-! ## The yard table -/

@[simp] theorem State.admitTanker_pending (i : Slot) (token : List Byte) (cs : List (Nat × List ClassNo)) :
    (s.admitTanker i token cs).pending = s.pending := by
  rw [State.admitTanker, State.admitRecords_eq_foldl]
  exact State.foldl_pending (fun s x => s.changeRecord_pending _ _) _ _

@[simp] theorem State.depart_pending (i : Slot) (x : Tanker) : (s.depart i x).pending = s.pending := by
  rw [State.depart_eq]

end

end Sys2Proof.Machine
end

section
/-! # What the owner of a kind answers (R164, R165)

One lemma an owner: its change leaves the queue alone, a refusal other than LAPSED changes nothing and has an empty
body but for the two of R164, and the body fits a frame. -/

namespace Sys2Proof.Machine

variable {s t : State}

/-- What an owner of a kind comes to from a state, `a.1` with the reply `a.2`. -/
structure State.Answers (s : State) (k : Kind) (a : State × Reply) : Prop where
  queue : a.1.pending = s.pending
  unchanged : a.2.code ≠ .ok → a.2.code ≠ .lapsed → a.1 = s
  plain : a.2.code ≠ .ok → a.2.body = [] ∨ (k = .setIntent ∧ a.2.code = .barred ∧ a.2.body.length = 1)
    ∨ (k = .resume ∧ a.2.code = .held ∧ a.2.body.length = 2)
  short : s.Sound → s.mainPower = true → a.2.body.length ≤ 240

namespace State.Answers

variable {k : Kind}

/-- A refusal with an empty body and nothing changed. -/
theorem refused (c : AnswerCode) : s.Answers k (s, refuse c) :=
  ⟨rfl, fun _ _ => rfl, fun _ => .inl rfl, fun _ _ => by simp [refuse]⟩

/-- An OK answer whose body is short from a state that keeps the laws. -/
theorem taken {body : List Byte} (queue : t.pending = s.pending)
    (short : s.Sound → s.mainPower = true → body.length ≤ 240) : s.Answers k (t, okay body) :=
  ⟨queue, fun h _ => absurd rfl h, fun h => absurd rfl h, short⟩

/-- An OK answer whose body is short from every state. -/
theorem takenShort {body : List Byte} (queue : t.pending = s.pending) (short : body.length ≤ 240) :
    s.Answers k (t, okay body) :=
  taken queue fun _ _ => short

end State.Answers

/-! ## The lengths of what is sent -/

@[simp] theorem length_byte1 (n : Nat) : (byte1 n).length = 1 := rfl
@[simp] theorem length_byte2 (n : Nat) : (byte2 n).length = 2 := rfl
@[simp] theorem length_byte3 (n : Nat) : (byte3 n).length = 3 := rfl
@[simp] theorem length_byte4 (n : Nat) : (byte4 n).length = 4 := rfl
@[simp] theorem length_byteFlag (b : Bool) : (byteFlag b).length = 1 := rfl
@[simp] theorem length_lineBytes (v : LineSet) : (lineBytes v).length = 2 := rfl

/-- A list sent with one width for each entry. -/
theorem length_flatMap_width {α : Type} {n : Nat} {f : α → List Byte} (width : ∀ x, (f x).length = n) (xs : List α) :
    (xs.flatMap f).length = xs.length * n := by
  simp [List.length_flatMap, width]

@[simp] theorem SampleSlot.length_bytes (x : SampleSlot) : x.bytes.length = 8 := by
  unfold SampleSlot.bytes
  cases x.lastGood <;> rfl

@[simp] theorem Route.length_bytes (e : Route) (l : Line) (free : Nat) : (e.bytes l free).length = 8 := rfl

@[simp] theorem Phase.length_bytes (ph : Phase) : ph.bytes.length = 18 := by
  rw [Phase.bytes_eq_sentBytes, Phase.length_sentBytes]

@[simp] theorem State.length_eventBytes (s : State) (r : RecordRef) : (s.eventBytes r).length = 3 := by
  unfold State.eventBytes
  split <;> rfl

@[simp] theorem State.length_compartmentLine (s : State) (r : RecordRef) : (s.compartmentLine r).length = 3 := by
  unfold State.compartmentLine
  split <;> rfl

@[simp] theorem State.length_stateBytes (s : State) (x : Tanker) : (s.stateBytes x).length = x.compartments.length := by
  simp [State.stateBytes, List.length_flatMap]

@[simp] theorem length_classBytes (d : Option ClassDef) : (classBytes d).length = 3 := by cases d <;> rfl

/-- A set has no more members than its table has places. -/
theorem length_membersOf_le {n : Nat} (v : Vector Bool n) : (membersOf v).length ≤ n := by
  simpa [membersOf] using List.length_filter_le (fun i => v[i]) (List.finRange n)

/-- A tanker of the yard table has a token of at most eight characters and at most eight compartments (R1). -/
theorem State.length_tankerBytes_le {i : Slot} {x : Tanker} (own : s.ret.ListsOwn x) :
    (s.tankerBytes i x).length ≤ 39 := by
  obtain ⟨⟨-, token, -⟩, -, compartments, -, -⟩ := own
  have lines := length_flatMap_width s.length_compartmentLine x.compartments
  simp only [State.tankerBytes, List.length_append, length_byte1, length_byte4, length_tokenBytes token, lines]
  omega

/-- A listed tanker's report is short from a state that keeps the laws. -/
theorem State.Sound.length_tankerBytes_le (h : s.Sound) (hp : s.mainPower = true) {i : Slot} {x : Tanker}
    (hx : s.ret.tankers[i] = some x) : (s.tankerBytes i x).length ≤ 240 := by
  obtain ⟨-, -, -, own, -⟩ := h.table (h.ranges.marker hp)
  have := State.length_tankerBytes_le (own i x hx) (i := i)
  omega

/-- DOCK's answer for a listed tanker, likewise (R13). -/
theorem State.Sound.length_dockReply_le (h : s.Sound) (hp : s.mainPower = true) {i : Slot} {x : Tanker}
    (hx : s.ret.tankers[i] = some x) : (s.dockReply i x).body.length ≤ 240 := by
  obtain ⟨-, -, -, own, -⟩ := h.table (h.ranges.marker hp)
  obtain ⟨-, -, eight, -, -⟩ := own i x hx
  simp only [State.dockReply, okay, List.length_append, length_byte1, State.length_stateBytes]
  omega

/-- The lists of a record in use are no longer than its layout holds (R4, R5). -/
theorem State.Sound.listsFit (h : s.Sound) (hp : s.mainPower = true) {r : RecordRef} {c : Compartment}
    (hc : s.ret.pool[r] = some c) : c.ListsFit := by
  obtain ⟨-, -, history, -, -, progress, summary, -⟩ := h.records (h.ranges.marker hp) r c hc
  refine ⟨history, fun p hq => ?_, summary⟩
  obtain ⟨-, index, -, -, -, -, -, -, -, done, under⟩ := progress p hq
  have eight := (s.washRanges h.ranges hp).phaseCount_le c
  by_cases complete : c.AtHandover p
  · have := done complete
    omega
  · have := under complete
    omega

/-- A record's report is short from a state that keeps the laws (10.6). -/
theorem State.Sound.length_bytes_le (h : s.Sound) (hp : s.mainPower = true) {x : Named}
    (hx : s.ret.pool[x.ref] = some x.record) : x.bytes.length ≤ 240 := by
  rw [x.bytes_eq_fields (h.listsFit hp hx), x.length_fields]
  omega

/-- The grant queue has at most one entry a bay (R42, R68). -/
theorem State.Sound.length_queue_le (h : s.Sound) (hp : s.mainPower = true) : s.act.arbiter.queue.length ≤ 4 := by
  obtain ⟨-, -, entries, once, -⟩ := h.loop hp
  have bays : (s.act.arbiter.queue.map (·.bay)).Nodup := by
    refine List.Nodup.of_map (fun b : Bay => (s.act.units[b]).active) ?_
    have active : (s.act.arbiter.queue.map (·.bay)).map (fun b : Bay => (s.act.units[b]).active)
        = (s.act.arbiter.queue.map (·.ref)).map some := by
      rw [List.map_map, List.map_map]
      exact List.map_congr_left fun e he => (entries e he).1
    rw [active]
    exact once.map (Option.some_injective _)
  simpa using bays.length_le_card

/-! ## Reads -/

section

variable (p : Port) (body : List Byte) {k : Kind}

open State.Answers

theorem ownStatus_answers : s.Answers k (ownStatus p body s) := by
  refine takenShort rfl ?_
  cases p <;> simp [Port.position]

theorem ownEvents_answers : s.Answers k (ownEvents p body s) := by
  refine takenShort rfl ?_
  have members := length_membersOf_le (s.notice p).changed
  have lines := length_flatMap_width s.length_eventBytes (membersOf (s.notice p).changed)
  simp only [List.length_append, length_byte1, length_lineBytes, lines]
  omega

theorem ownReadLoop_answers : s.Answers k (ownReadLoop p body s) := by
  refine taken rfl fun h hp => ?_
  have four := h.length_queue_le hp
  have entries := length_flatMap_width (f := QueueEntry.bytes) (n := 5) (fun _ => rfl) s.act.arbiter.queue
  simp only [List.length_append, length_byte1, length_lineBytes, entries]
  omega

theorem ownReadInstruments_answers : s.Answers k (ownReadInstruments p body s) := by
  have slots := length_flatMap_width SampleSlot.length_bytes s.act.slots.toList
  have pulses := length_flatMap_width (n := 5)
    (f := fun m : Position => (s.act.pulses[m.index]).bytes (s.ret.pulseFilter m)) (fun _ => rfl) allMeters
  have outputs := length_flatMap_width (f := BayOutputs.bytes) (n := 6) (fun _ => rfl) s.act.outputs.toList
  refine takenShort rfl ?_
  rw [List.length_append, List.length_append, slots, pulses, outputs]
  simp [allMeters]

theorem ownReadTanker_answers : s.Answers k (ownReadTanker p body s) := by
  unfold ownReadTanker
  split
  · split
    · exact refused _
    next hx => exact taken rfl fun h hp => h.length_tankerBytes_le hp (State.of_tankerAt hx).2
  · split
    · exact refused _
    next hx => exact taken rfl fun h hp => h.length_tankerBytes_le hp (State.of_boundTanker hx).2
  · exact refused _

theorem ownReadCompartment_answers : s.Answers k (ownReadCompartment p body s) := by
  unfold ownReadCompartment
  split
  · split
    · exact refused _
    next hx => exact taken rfl fun h hp => h.length_bytes_le hp (State.record_of_nameAtSlot hx)
  · split
    · exact refused _
    next hx => exact taken rfl fun h hp => h.length_bytes_le hp (State.record_of_nameBound hx)
  · exact refused _

theorem ownReadClass_answers : s.Answers k (ownReadClass p body s) := by
  unfold ownReadClass
  split
  · split
    · exact refused _
    · exact takenShort rfl (by simp)
  · exact refused _

theorem ownReadFollow_answers : s.Answers k (ownReadFollow p body s) := by
  unfold ownReadFollow
  split
  · split
    · exact refused _
    next g _ =>
      have cells := length_flatMap_width (f := fun c : Cell => byte1 c.code) (n := 1) (fun _ => rfl)
        (s.ret.follow[g]).toList
      exact takenShort rfl (by rw [cells]; simp)
  · exact refused _

/-- A program has at most eight phases of 18 bytes (R28, R31). -/
theorem ownReadProgram_answers : s.Answers k (ownReadProgram p body s) := by
  unfold ownReadProgram
  split
  · split
    · exact refused _
    next prog _ =>
      refine taken rfl fun h hp => ?_
      obtain ⟨-, -, -, -, programs, -⟩ := h.ranges.numbers hp
      have eight := (programs prog).1
      have phases := length_flatMap_width Phase.length_bytes (s.ret.programs[prog])
      simp only [List.length_append, length_byte1, phases]
      omega
  · exact refused _

theorem ownReadRoute_answers : s.Answers k (ownReadRoute p body s) := by
  unfold ownReadRoute
  split
  · split
    · exact refused _
    · exact takenShort rfl (by simp)
  · exact refused _

theorem ownReadSetting_answers : s.Answers k (ownReadSetting p body s) := by
  unfold ownReadSetting
  split
  · split
    · exact takenShort rfl (by simp)
    · split
      · exact refused _
      · exact takenShort rfl (by simp)
  · exact refused _

end

/-! ## Changes of named compartments -/

section

open State.Answers

variable {k : Kind} (x : Named)

/-- SET-INTENT refused BARRED names the barring class in one byte (R34, R164). -/
theorem setIntentOn_answers (intent : Nat) : s.Answers .setIntent (setIntentOn x intent s) := by
  unfold setIntentOn
  split
  · exact refused _
  · split
    · exact refused _
    · split
      · exact refused _
      · exact ⟨rfl, fun _ _ => rfl, fun _ => .inr (.inl ⟨rfl, rfl, rfl⟩), fun _ _ => by simp⟩
      · exact refused _
      · refine takenShort ?_ (by simp)
        unfold State.retarget
        simp only
        split <;> simp

theorem inspectPassOn_answers (inspector : Nat) : s.Answers k (inspectPassOn x inspector s) := by
  unfold inspectPassOn
  split_ifs
  · exact refused _
  · exact refused _
  · split
    · exact takenShort (State.changeRecord_pending _ _ _) (by simp)
    · exact refused _

theorem inspectFailOn_answers (flag : Nat) : s.Answers k (inspectFailOn x flag s) := by
  unfold inspectFailOn
  split_ifs
  · exact refused _
  · exact refused _
  · exact takenShort (s.changeRecord_pending _ _) (by simp)

/-- FILL-START refused LAPSED is the one refusal that changes the yard table (R126, R133). -/
theorem fillStartOn_answers (cargo preset : Nat) : s.Answers k (fillStartOn x cargo preset s) := by
  unfold fillStartOn
  split
  · exact refused _
  · split
    · exact refused _
    · split
      · split_ifs
        · exact ⟨s.lapse_pending x.ref, fun _ h => absurd rfl h, fun _ => .inl rfl, fun _ _ => by simp [refuse]⟩
        · exact refused _
        · exact refused _
        · exact takenShort (State.changeRecord_pending _ _ _) (by simp)
      · exact refused _

theorem fillEndOn_answers (litres : Nat) : s.Answers k (fillEndOn x litres s) := by
  unfold fillEndOn
  split
  · exact takenShort (State.changeRecord_pending _ _ _) (by simp)
  · exact refused _

theorem fillAbortOn_answers : s.Answers k (fillAbortOn x s) := by
  unfold fillAbortOn
  split
  · split <;> exact takenShort (State.changeRecord_pending _ _ _) (by simp)
  · exact refused _

theorem startWashOn_answers (b : Bay) : s.Answers k (startWashOn b x s) := by
  unfold startWashOn
  split_ifs
  · exact refused _
  · exact refused _
  · exact refused _
  · split
    · exact refused _
    · exact takenShort (s.enterQueued_pending ..) (by simp [Phase.answer])

theorem phaseGoOn_answers : s.Answers k (phaseGoOn x s) := by
  unfold phaseGoOn
  split
  · split
    · exact refused _
    · exact takenShort (s.enterQueued_pending ..) (by simp [Phase.answer])
  · exact refused _

/-- RESUME refused HELD carries the lines still active in two bytes (R152, R164). -/
theorem resumeAt_answers (pos : Position) : s.Answers .resume (resumeAt pos s) := by
  unfold resumeAt
  split
  · exact ⟨rfl, fun _ _ => rfl, fun _ => .inr (.inr ⟨rfl, rfl, rfl⟩), fun _ _ => by simp⟩
  · exact takenShort rfl (by simp)

theorem dockAt_answers {pos : Position} {i : Slot} {y : Tanker} (hy : s.ret.tankers[i] = some y) :
    s.Answers k (dockAt pos i y s) := by
  unfold dockAt
  split_ifs
  · exact taken rfl fun h hp => h.length_dockReply_le hp hy
  · exact refused _
  · exact refused _
  · exact taken rfl fun h hp => h.length_dockReply_le hp hy

end

/-! ## Requests that change the part -/

section

variable (p : Port) (body : List Byte) {k : Kind}

open State.Answers

theorem ownAckLine_answers : s.Answers k (ownAckLine p body s) := by
  unfold ownAckLine
  split
  · split
    · exact refused _
    · split <;> exact takenShort rfl (by simp)
  · exact refused _

theorem ownResume_answers : s.Answers .resume (ownResume p body s) := by
  unfold ownResume
  split
  · exact resumeAt_answers _
  · split
    · exact refused _
    · exact resumeAt_answers _
  · exact refused _

theorem ownAdmit_answers : s.Answers k (ownAdmit p body s) := by
  unfold ownAdmit
  split
  · exact refused _
  · split
    · exact refused _
    · split
      · exact refused _
      · split
        · split
          · exact refused _
          · split
            · exact refused _
            · split
              · exact refused _
              · split
                · exact refused _
                · exact takenShort (s.admitTanker_pending ..) (by simp)
        · exact refused _

theorem ownDepart_answers : s.Answers k (ownDepart p body s) := by
  unfold ownDepart
  split
  · split
    · exact refused _
    · split_ifs
      · exact refused _
      · exact refused _
      · exact takenShort (s.depart_pending ..) (by simp)
  · exact refused _

theorem ownSetIntent_answers : s.Answers .setIntent (ownSetIntent p body s) := by
  unfold ownSetIntent
  split
  · split
    · exact refused _
    · exact setIntentOn_answers _ _
  · exact refused _

theorem ownEmptied_answers : s.Answers k (ownEmptied p body s) := by
  unfold ownEmptied
  split
  · split
    · exact refused _
    · split
      · exact refused _
      · exact takenShort (s.changeRecord_pending ..) (by simp)
  · exact refused _

theorem ownVoidRelease_answers : s.Answers k (ownVoidRelease p body s) := by
  unfold ownVoidRelease
  split
  · split
    · exact refused _
    · split
      · exact refused _
      · exact takenShort (s.changeRecord_pending ..) (by simp)
  · exact refused _

theorem ownAbortWash_answers : s.Answers k (ownAbortWash p body s) := by
  unfold ownAbortWash
  split
  · split
    · exact refused _
    · split
      · exact takenShort (s.stopWash_pending ..) (by simp)
      · exact refused _
  · exact refused _

theorem ownCancelWash_answers : s.Answers k (ownCancelWash p body s) := by
  unfold ownCancelWash
  split
  · split
    · exact refused _
    · split
      · exact takenShort (s.stopWash_pending ..) (by simp)
      · exact refused _
  · exact refused _

theorem ownDock_answers : s.Answers k (ownDock p body s) := by
  unfold ownDock
  split
  · exact refused _
  · split
    · exact refused _
    · split
      · exact refused _
      next hy => exact dockAt_answers hy

theorem ownUndock_answers : s.Answers k (ownUndock p body s) := by
  unfold ownUndock
  split
  · exact refused _
  · split
    · exact refused _
    · split
      · exact refused _
      · exact takenShort rfl (by simp)

theorem ownStartWash_answers : s.Answers k (ownStartWash p body s) := by
  unfold ownStartWash
  split
  · split
    · exact refused _
    · exact startWashOn_answers _ _
  · exact refused _

theorem ownPhaseGo_answers : s.Answers k (ownPhaseGo p body s) := by
  unfold ownPhaseGo
  split
  · split
    · exact refused _
    · exact phaseGoOn_answers _
  · exact refused _

theorem ownInspectPass_answers : s.Answers k (ownInspectPass p body s) := by
  unfold ownInspectPass
  split
  · split
    · exact refused _
    · exact inspectPassOn_answers _ _
  · exact refused _

theorem ownInspectFail_answers : s.Answers k (ownInspectFail p body s) := by
  unfold ownInspectFail
  split
  · split
    · exact refused _
    · exact inspectFailOn_answers _ _
  · exact refused _

theorem ownFillStart_answers : s.Answers k (ownFillStart p body s) := by
  unfold ownFillStart
  split
  · split
    · exact refused _
    · exact fillStartOn_answers _ _ _
  · exact refused _

theorem ownFillEnd_answers : s.Answers k (ownFillEnd p body s) := by
  unfold ownFillEnd
  split
  · split
    · exact refused _
    · exact fillEndOn_answers _ _
  · exact refused _

theorem ownFillAbort_answers : s.Answers k (ownFillAbort p body s) := by
  unfold ownFillAbort
  split
  · split
    · exact refused _
    · exact fillAbortOn_answers _
  · exact refused _

theorem ownWriteClass_answers : s.Answers k (ownWriteClass p body s) := by
  unfold ownWriteClass
  split
  · split
    · exact refused _
    · split
      · split
        · exact refused _
        · exact takenShort rfl (by simp)
      · split
        · exact takenShort rfl (by simp)
        · exact refused _
  · exact refused _

theorem ownWriteProgram_answers : s.Answers k (ownWriteProgram p body s) := by
  unfold ownWriteProgram
  split
  · split_ifs
    · exact refused _
    · exact refused _
    · split
      · split
        · exact refused _
        · exact takenShort rfl (by simp)
      · exact refused _
  · exact refused _

theorem ownWriteFollow_answers : s.Answers k (ownWriteFollow p body s) := by
  unfold ownWriteFollow
  split
  · split
    · exact refused _
    · split
      · exact takenShort rfl (by simp)
      · exact refused _
  · exact refused _

theorem ownWriteRoute_answers : s.Answers k (ownWriteRoute p body s) := by
  unfold ownWriteRoute
  split
  · split
    · split
      · exact refused _
      · exact takenShort (s.reroute_pending ..) (by simp)
    · exact refused _
  · exact refused _

theorem ownWriteSetting_answers : s.Answers k (ownWriteSetting p body s) := by
  unfold ownWriteSetting
  split
  · split
    · exact refused _
    · exact takenShort (State.settingEffect_pending ..) (by simp)
  · exact refused _

theorem ownSetClock_answers : s.Answers k (ownSetClock p body s) := by
  unfold ownSetClock
  split
  · exact takenShort rfl (by simp)
  · exact refused _

theorem ownOpenYard_answers : s.Answers k (ownOpenYard p body s) := by
  unfold ownOpenYard
  split
  · exact refused _
  · exact takenShort s.openMode.lapseAll_pending (by simp)

theorem ownYardReset_answers : s.Answers k (ownYardReset p body s) := takenShort rfl (by simp)

/-- The owner of each kind. -/
theorem owner_answers (k : Kind) : s.Answers k (owner k p body s) := by
  cases k with
  | status => exact ownStatus_answers p body
  | events => exact ownEvents_answers p body
  | ackLine => exact ownAckLine_answers p body
  | resume => exact ownResume_answers p body
  | readTanker => exact ownReadTanker_answers p body
  | readCompartment => exact ownReadCompartment_answers p body
  | admitTanker => exact ownAdmit_answers p body
  | depart => exact ownDepart_answers p body
  | setIntent => exact ownSetIntent_answers p body
  | emptied => exact ownEmptied_answers p body
  | voidRelease => exact ownVoidRelease_answers p body
  | cancelWash => exact ownCancelWash_answers p body
  | readLoop => exact ownReadLoop_answers p body
  | readInstruments => exact ownReadInstruments_answers p body
  | dock => exact ownDock_answers p body
  | undock => exact ownUndock_answers p body
  | startWash => exact ownStartWash_answers p body
  | phaseGo => exact ownPhaseGo_answers p body
  | abortWash => exact ownAbortWash_answers p body
  | inspectPass => exact ownInspectPass_answers p body
  | inspectFail => exact ownInspectFail_answers p body
  | fillStart => exact ownFillStart_answers p body
  | fillEnd => exact ownFillEnd_answers p body
  | fillAbort => exact ownFillAbort_answers p body
  | writeClass => exact ownWriteClass_answers p body
  | writeProgram => exact ownWriteProgram_answers p body
  | writeFollow => exact ownWriteFollow_answers p body
  | writeRoute => exact ownWriteRoute_answers p body
  | writeSetting => exact ownWriteSetting_answers p body
  | readClass => exact ownReadClass_answers p body
  | readProgram => exact ownReadProgram_answers p body
  | readFollow => exact ownReadFollow_answers p body
  | readRoute => exact ownReadRoute_answers p body
  | readSetting => exact ownReadSetting_answers p body
  | setClock => exact ownSetClock_answers p body
  | openYard => exact ownOpenYard_answers p body
  | yardReset => exact ownYardReset_answers p body

end

end Sys2Proof.Machine
end

section
/-! # Commands through a port, and every command (R163 to R168) -/

namespace Sys2Proof.Machine

variable {s : State}

/-! ## A request served (R165) -/

/-- A request of a catalogued kind served: refused by a common check, or answered by its owner. -/
theorem serve_answers (k : Kind) (p : Port) (tag : Byte) (body : List Byte) :
    s.Answers k (serve p ⟨k.byte, tag, body⟩ s) := by
  unfold serve
  simp only [kindOf_byte]
  split
  · exact .refused _
  · exact owner_answers p body k

/-- Settles O4: a ready port takes the frame at once, and what it answers is what its serving comes to
(`serve_answers`). -/
theorem takenRequestIsAnswered : Obligations.TakenRequestIsAnswered := by
  intro k p tag body s ready hl
  obtain ⟨-, unchanged, plain, short⟩ := serve_answers (s := s) k p tag body
  have answered : exec (requestOf k p tag body) s = .next (s.take p ⟨k.byte, tag, body⟩) := by
    rw [exec_requestOf, State.request_eq _ _ _ _ _ ready.power, ready.frameCompletes _ hl]
  refine ⟨_, _, _, answered, ?_, fun notOk notLapsed => ?_, plain, fun sound => short sound ready.power⟩
  · exact congrArg PortState.sending ((State.port_setPort ..).trans (if_pos rfl))
  · rw [State.take, unchanged notOk notLapsed]
    rfl

/-! ## The queue through a port -/

/-- A request served leaves the queue alone, whatever its kind byte. -/
theorem serve_pending (p : Port) (f : Frame) (s : State) : (serve p f s).1.pending = s.pending := by
  obtain same | ⟨k, -, same⟩ := serve_cases p f s
  · rw [same]
  · rw [same]
    exact (owner_answers p f.body k).queue

variable (s) (p : Port)

@[simp] theorem State.take_pending (f : Frame) : (s.take p f).pending = s.pending := serve_pending p f s

@[simp] theorem State.frameCompletes_pending (f : Frame) : (s.frameCompletes p f).pending = s.pending := by
  unfold State.frameCompletes
  split_ifs
  · rfl
  · rfl
  · rfl
  · exact s.take_pending p f

theorem State.answerSent_pending : (s.answerSent p).pending = s.pending := by
  unfold State.answerSent
  split
  · rfl
  · split
    · rfl
    · split
      · rfl
      · split
        · rfl
        · exact State.take_pending _ p _

theorem State.receiveByte_pending (x : Byte) (err : Bool) : (s.receiveByte p x err).pending = s.pending := by
  unfold State.receiveByte
  split
  · split <;> rfl
  · split
    · rfl
    · split
      · rfl
      · rfl
      · exact State.frameCompletes_pending _ p _

theorem State.gap_pending : (s.gap p).pending = s.pending := by
  unfold State.gap
  split <;> rfl

/-! ## Every command -/

theorem whenPowered_pending {f : State → State} (h : (f s).pending = s.pending) :
    (whenPowered s f).pending = s.pending := by
  unfold whenPowered
  split
  · exact h
  · rfl

/-- Without main power the part does nothing (R167, R168). -/
theorem whenPowered_off {s : State} (off : s.mainPower = false) (f : State → State) : whenPowered s f = s := by
  simp [whenPowered, off]

/-- Every command answers a next state and leaves the queue alone. -/
theorem exec_pending (i : Instr) : ∃ t, exec i s = .next t ∧ t.pending = s.pending := by
  have powered {f : State → State} (h : (f s).pending = s.pending) : (whenPowered s f).pending = s.pending :=
    whenPowered_pending s h
  cases h : i.request? with
  | some q =>
    rw [← requestOf_of_request h]
    exact ⟨_, exec_requestOf _ _ _ _ s, powered (s.frameCompletes_pending _ _)⟩
  | none =>
    cases i with
    | yardResetEffect => exact ⟨_, rfl, powered (by split <;> rfl)⟩
    | coldStart => exact ⟨_, rfl, by split <;> rfl⟩
    | powerReturn => exact ⟨_, rfl, by split <;> rfl⟩
    | mainPowerLoss => exact ⟨_, rfl, by unfold State.losePower; split <;> rfl⟩
    | backupSupplyLoss => exact ⟨_, rfl, by unfold State.loseBackup; split <;> rfl⟩
    | yardClockSecond => exact ⟨_, rfl, s.clockSecond_pending⟩
    | requestByteReceived p x err => exact ⟨_, rfl, powered (s.receiveByte_pending p x err)⟩
    | interByteTimeout p => exact ⟨_, rfl, powered (s.gap_pending p)⟩
    | answerSendComplete p => exact ⟨_, rfl, powered (s.answerSent_pending p)⟩
    | scanConversion ch code => exact ⟨_, rfl, powered (s.convert_pending ch code)⟩
    | pulseSample m level => exact ⟨_, rfl, powered (s.samplePulse_pending m level)⟩
    | lineSample l level => exact ⟨_, rfl, powered (s.sampleLine_pending l level)⟩
    | grant => exact ⟨_, rfl, powered s.grantStep_pending⟩
    | accountingIntervalClose b => exact ⟨_, rfl, powered (s.closeInterval_pending b)⟩
    | phaseTimerTick b => exact ⟨_, rfl, powered (s.phaseTick_pending b)⟩
    | phaseTimerExpiry b => exact ⟨_, rfl, powered (s.phaseExpiry_pending b)⟩
    | handoverTimerExpiry b => exact ⟨_, rfl, powered (s.expire_pending b ..)⟩
    | reEntryTimerExpiry b => exact ⟨_, rfl, powered (s.expire_pending b ..)⟩
    | holdTimerExpiry b => exact ⟨_, rfl, powered (s.expire_pending b ..)⟩
    | washHold b => exact ⟨_, rfl, powered (s.holdStep_pending b)⟩
    | washResume b => exact ⟨_, rfl, powered (s.resumeStep_pending b)⟩
    | fillStoppedMark => exact ⟨_, rfl, powered s.stoppedStep_pending⟩
    | sweepTick b => exact ⟨_, rfl, powered (s.sweepStep_pending b)⟩
    | releaseTimerCheck => exact ⟨_, rfl, powered s.timerCheck_pending⟩
    | releaseLapse r => exact ⟨_, rfl, powered (s.lapseStep_pending r)⟩
    | ageMillisecond => exact ⟨_, rfl, powered rfl⟩
    | _ => cases h

/-- The commands that act without main power: the starts, the loss of the backup supply and the yard clock (R167 to
R172, log entry 11). -/
abbrev unpoweredCommands : List Instr := [.coldStart, .powerReturn, .backupSupplyLoss, .yardClockSecond]

/-- An unpowered part does nothing with any other command. -/
theorem exec_unpowered {s : State} (off : s.mainPower = false) {i : Instr} (hi : i ∉ unpoweredCommands) :
    exec i s = .next s := by
  cases h : i.request? with
  | some q =>
    rw [← requestOf_of_request h, exec_requestOf, State.request, whenPowered_off off]
  | none =>
    cases i with
    | coldStart | powerReturn | backupSupplyLoss | yardClockSecond => exact absurd hi (by decide)
    | mainPowerLoss => exact congrArg Host.Outcome.next (by simp [State.losePower, off])
    | yardResetEffect | requestByteReceived | interByteTimeout | answerSendComplete | scanConversion | pulseSample
    | lineSample | grant | accountingIntervalClose | phaseTimerTick | phaseTimerExpiry | handoverTimerExpiry
    | reEntryTimerExpiry | holdTimerExpiry | washHold | washResume | fillStoppedMark | sweepTick | releaseTimerCheck
    | releaseLapse | ageMillisecond => exact congrArg Host.Outcome.next (whenPowered_off off _)
    | _ => cases h

/-- Settles O3: every command completes past the queue (`exec_pending`), and all but four are not taken without main
power (`exec_unpowered`). -/
theorem commandsCompleteAndUnpoweredPartStands : Obligations.CommandsCompleteAndUnpoweredPartStands := by
  intro i s
  refine ⟨exec_pending s i, fun off cold warm backup clock => exec_unpowered off ?_⟩
  simp [cold, warm, backup, clock]

end Sys2Proof.Machine
end

section
/-! # The common checks in their order (R165) -/

namespace Sys2Proof.Machine

variable {s : State} {p : Port} {k : Kind} {n : Nat} {e : Entry}

/-- First the role. -/
theorem commonCheck_role (he : catalogue p k = none) : commonCheck p k n s = some .role := by
  simp [commonCheck, he]

/-- Then the body length. -/
theorem commonCheck_format (he : catalogue p k = some e) (hl : e.lengthOk n = false) :
    commonCheck p k n s = some .format := by
  simp [commonCheck, he, hl]

/-- Then the mode. -/
theorem commonCheck_recovery (he : catalogue p k = some e) (hl : e.lengthOk n = true) (hm : s.act.mode = .recovery)
    (hr : e.inRecovery = false) : commonCheck p k n s = some .recovery := by
  simp [commonCheck, he, hl, hm, hr]

/-- Then the binding. -/
theorem commonCheck_unbound (he : catalogue p k = some e) (hl : e.lengthOk n = true)
    (hm : s.act.mode = .recovery → e.inRecovery = true) (hb : e.needsBinding = true) (hu : s.unboundAt p = true) :
    commonCheck p k n s = some .unbound := by
  cases hr : e.inRecovery <;> simp_all [commonCheck]

/-- The kinds of every role that are taken in RECOVERY. -/
abbrev recoveryKinds : List Kind := [.status, .events, .ackLine, .readTanker, .readCompartment]

/-- From every port that has such a kind (10.3). -/
theorem inRecovery_of_recoveryKinds (he : catalogue p k = some e) (hk : k ∈ recoveryKinds) : e.inRecovery = true := by
  cases k with
  | status | events | ackLine | readTanker | readCompartment => cases p <;> cases he <;> rfl
  | _ => exact absurd hk (by decide)

/-- A bay and the rack have no other kinds in RECOVERY, and the office lacks SET-INTENT only (10.3). -/
theorem not_inRecovery_of_catalogue (he : catalogue p k = some e) (hk : k ∉ recoveryKinds)
    (hp : p ≠ .office ∨ k = .setIntent) : e.inRecovery = false := by
  cases p with
  | office =>
    obtain rfl := hp.resolve_left (· rfl)
    cases he
    rfl
  | bay | rack =>
    cases k with
    | status | events | ackLine | readTanker | readCompartment => exact absurd (by decide) hk
    | _ => cases he <;> rfl

/-- The kinds a bay or the rack names its bound tanker with. -/
abbrev boundKinds : List Kind :=
  [.readTanker, .readCompartment, .startWash, .phaseGo, .abortWash, .inspectPass, .inspectFail, .fillStart, .fillEnd,
    .fillAbort]

/-- From a position each of them needs its binding (10.3). -/
theorem needsBinding_of_catalogue (he : catalogue p k = some e) (hk : k ∈ boundKinds) {pos : Position}
    (hp : p.position = some pos) : e.needsBinding = true := by
  cases p with
  | office => cases hp
  | bay | rack =>
    cases k with
    | readTanker | readCompartment | startWash | phaseGo | abortWash | inspectPass | inspectFail | fillStart | fillEnd
    | fillAbort => cases he <;> rfl
    | _ => exact absurd hk (by decide)

/-- A position without a binding is unbound. -/
theorem State.unboundAt_of_binding {pos : Position} (hp : p.position = some pos) (hb : s.binding pos = none) :
    s.unboundAt p = true := by
  simp [State.unboundAt, hp, hb]

/-- Settles O5: a kind byte of no kind is answered before the role, and each common check in its order refuses what
reaches it (`exec_refused`). -/
theorem commonChecksInOrder : Obligations.CommonChecksInOrder := by
  intro p tag body s ready hl
  refine ⟨fun kind unknown => ?_, fun k => ?_⟩
  · rw [ready.frameCompletes _ hl, State.take, serve, kindOf_none kind unknown]
    rfl
  · have refused {c : AnswerCode} (hc : commonCheck p k body.length s = some c) :
        exec (requestOf k p tag body) s = .next (s.replies p k tag c []) := exec_refused ready k tag body hl hc
    refine ⟨fun he => refused (commonCheck_role he), fun e he => ⟨fun hf => refused (commonCheck_format he hf),
      fun hlen => ⟨fun hm hk hp => ?_, fun hopen hk ⟨pos, hpos, unbound⟩ => ?_⟩⟩⟩
    · exact refused (commonCheck_recovery he hlen hm (not_inRecovery_of_catalogue he hk hp))
    · refine refused (commonCheck_unbound he hlen (fun hm => ?_) (needsBinding_of_catalogue he hk hpos)
        (State.unboundAt_of_binding hpos unbound))
      have reads := hopen.resolve_left fun ho => by rw [ho] at hm; cases hm
      exact inRecovery_of_recoveryKinds he (List.mem_append_right [Kind.status, Kind.events, Kind.ackLine] reads)

end Sys2Proof.Machine
end

section
/-! # The taking order of a port (R163, R166, R170) -/

namespace Sys2Proof.Machine

variable {s : State} {p : Port}

/-- A frame that finds the holding slot full is discarded and counted (R166). -/
theorem State.frameCompletes_full (full : (s.port p).holding.isSome = true) (f : Frame) :
    s.frameCompletes p f = s.discard p := by
  simp [State.frameCompletes, full]

/-- A frame that finds an answer being sent, or a reset to be made, waits in the holding slot (R163, R170). -/
theorem State.frameCompletes_held (empty : (s.port p).holding = none)
    (busy : (s.port p).sending.isSome = true ∨ s.act.yardReset = .due) {f : Frame} (hl : f.body.length ≤ 240) :
    s.frameCompletes p f = s.setPort p { s.port p with holding := some f } := by
  have fits : ¬ 240 < f.body.length := by omega
  simp [State.frameCompletes, State.resetDue, empty, fits, busy]

/-- With nothing being sent no answer leaves. -/
theorem State.answerSent_idle (idle : (s.port p).sending = none) : s.answerSent p = s := by
  simp only [State.answerSent, idle]

/-- An answer leaves a port that holds no frame. -/
theorem State.answerSent_nothingHeld (sent : (s.port p).sending.isSome = true)
    (reset : ¬ (p = .office ∧ s.act.yardReset = .answering)) (empty : (s.port p).holding = none) :
    s.answerSent p = s.setPort p { s.port p with sending := none } := by
  obtain ⟨a, ha⟩ := Option.isSome_iff_exists.mp sent
  simp [State.answerSent, ha, reset, empty]

/-- An answer leaves while a reset is to be made: a frame held waits for it (R170). -/
theorem State.answerSent_due (sent : (s.port p).sending.isSome = true) (due : s.act.yardReset = .due) :
    s.answerSent p = s.setPort p { s.port p with sending := none } := by
  obtain ⟨a, ha⟩ := Option.isSome_iff_exists.mp sent
  simp [State.answerSent, State.resetDue, ha, due]

/-- An answer leaves a port that holds a frame, which is then taken. -/
theorem State.answerSent_held (sent : (s.port p).sending.isSome = true)
    (reset : ¬ (p = .office ∧ s.act.yardReset = .answering)) (notDue : s.act.yardReset ≠ .due) {f : Frame}
    (held : (s.port p).holding = some f) :
    s.answerSent p = (s.setPort p { s.port p with sending := none, holding := none }).take p f := by
  obtain ⟨a, ha⟩ := Option.isSome_iff_exists.mp sent
  simp [State.answerSent, State.resetDue, ha, reset, notDue, held]

/-- The answer to a YARD-RESET leaves, and the reset is due (R170). -/
theorem State.answerSent_reset (sent : (s.port .office).sending.isSome = true) (reset : s.act.yardReset = .answering) :
    s.answerSent .office = { s.setPort .office { s.port .office with sending := none } with
      act := { (s.setPort .office { s.port .office with sending := none }).act with yardReset := .due } } := by
  obtain ⟨a, ha⟩ := Option.isSome_iff_exists.mp sent
  simp [State.answerSent, ha, reset]

/-- Settles O7: a frame completing and an answer leaving, each in the port's cases. -/
theorem takingOrderOfAPort : Obligations.TakingOrderOfAPort := by
  intro p s hp
  refine ⟨fun k tag body hl => ?_, fun idle => ?_, fun sent => ⟨fun reset empty => ?_, fun due => ?_,
    fun reset notDue f held => ?_, fun office reset => ?_⟩⟩
  · rw [exec_requestOf, State.request_eq _ _ _ _ _ hp]
    exact ⟨fun full => congrArg _ (State.frameCompletes_full full _),
      fun empty busy => congrArg _ (State.frameCompletes_held empty (.inl busy) hl),
      fun empty due => congrArg _ (State.frameCompletes_held empty (.inr due) hl)⟩
  · rw [exec_answerSendComplete hp, State.answerSent_idle idle]
  · rw [exec_answerSendComplete hp, State.answerSent_nothingHeld sent reset empty]
  · rw [exec_answerSendComplete hp, State.answerSent_due sent due]
  · rw [exec_answerSendComplete hp, State.answerSent_held sent reset notDue held]
  · subst office
    rw [exec_answerSendComplete hp, State.answerSent_reset sent reset]

end Sys2Proof.Machine
end

section
/-! # A port's receiver byte by byte (R162, R166) -/

namespace Sys2Proof.Machine

variable {s : State} {p : Port}

/-! ## One byte, and a gap -/

/-- A hunting receiver takes the sync byte. -/
theorem State.receiveByte_sync (hunting : (s.port p).receiver = .hunting) :
    s.receiveByte p requestSync false = s.setReceiver p (.inFrame []) := by
  simp [State.receiveByte, hunting]

/-- A hunting receiver discards every other byte (log entry 10). -/
theorem State.receiveByte_hunting (hunting : (s.port p).receiver = .hunting) {b : Byte} {err : Bool}
    (other : b ≠ requestSync ∨ err = true) : s.receiveByte p b err = s := by
  have : ¬ (b = requestSync ∧ err = false) := by
    rintro ⟨rfl, rfl⟩
    simp at other
  simp only [State.receiveByte, hunting, if_neg this]

section

variable {got : List Byte} {b : Byte}

/-- A framing error inside a frame discards it and counts it. -/
theorem State.receiveByte_error (inFrame : (s.port p).receiver = .inFrame got) (b : Byte) :
    s.receiveByte p b true = (s.setReceiver p .hunting).discard p := by
  simp [State.receiveByte, inFrame]

/-- A byte that completes no frame is kept. -/
theorem State.receiveByte_wanted (inFrame : (s.port p).receiver = .inFrame got)
    (more : receivedFrame (got ++ [b]) = .wanted) :
    s.receiveByte p b false = s.setReceiver p (.inFrame (got ++ [b])) := by
  simp [State.receiveByte, inFrame, more]

/-- A byte that no frame has at its place discards the partial frame and counts it. -/
theorem State.receiveByte_discarded (inFrame : (s.port p).receiver = .inFrame got)
    (wrong : receivedFrame (got ++ [b]) = .discarded) :
    s.receiveByte p b false = (s.setReceiver p .hunting).discard p := by
  simp [State.receiveByte, inFrame, wrong]

/-- The last byte of a frame puts it through the port's taking order. -/
theorem State.receiveByte_complete (inFrame : (s.port p).receiver = .inFrame got) {f : Frame}
    (last : receivedFrame (got ++ [b]) = .complete f) :
    s.receiveByte p b false = (s.setReceiver p .hunting).frameCompletes p f := by
  simp [State.receiveByte, inFrame, last]

end

/-- A gap while hunting does nothing. -/
theorem State.gap_hunting (hunting : (s.port p).receiver = .hunting) : s.gap p = s := by
  simp only [State.gap, hunting]

/-- A gap inside a frame discards it and counts it. -/
theorem State.gap_inFrame {got : List Byte} (inFrame : (s.port p).receiver = .inFrame got) :
    s.gap p = (s.setReceiver p .hunting).discard p := by
  simp only [State.gap, inFrame]

/-- A partial frame discarded: the receiver hunts again, and the discard count rises. -/
theorem State.discard_setReceiver (s : State) (p : Port) : (s.setReceiver p .hunting).discard p
    = s.setPort p { s.port p with receiver := .hunting, discards := min ((s.port p).discards + 1) 255 } := by
  simp only [State.setReceiver, State.discard, State.port_setPort, if_pos, State.setPort_setPort]

/-! ## What the bytes after the sync come to (R162) -/

/-- A length above 240 is no frame's. -/
theorem receivedFrame_tooLong {len : Byte} (h : 240 < len.toNat) (rest : List Byte) :
    receivedFrame (len :: rest) = .discarded := by
  simp [receivedFrame, h]

/-- Before its last check byte a frame wants more. -/
theorem receivedFrame_wanted {len : Byte} (h : len.toNat ≤ 240) {rest : List Byte}
    (short : rest.length < len.toNat + 4) : receivedFrame (len :: rest) = .wanted := by
  have fits : ¬ 240 < len.toNat := by omega
  rcases rest with _ | ⟨kind, _ | ⟨tag, more⟩⟩
  · simp [receivedFrame, fits]
  · simp [receivedFrame, fits]
  · have few : more.length < len.toNat + 2 := by
      simp only [List.length_cons] at short
      omega
    simp [receivedFrame, fits, few]

section

variable {len : Byte} (h : len.toNat ≤ 240) {body : List Byte} (hl : body.length = len.toNat) {kind tag c1 c2 : Byte}

include h hl

/-- At its last check byte a frame is complete, with a correct check. -/
theorem receivedFrame_complete (check : byte2 (crc16 (len :: kind :: tag :: body)).toNat = [c1, c2]) :
    receivedFrame (len :: kind :: tag :: (body ++ [c1, c2])) = .complete ⟨kind, tag, body⟩ := by
  have fits : ¬ 240 < body.length := by omega
  simp [receivedFrame, ← hl, fits, check]

/-- With a wrong one it is discarded. -/
theorem receivedFrame_badCheck (check : byte2 (crc16 (len :: kind :: tag :: body)).toNat ≠ [c1, c2]) :
    receivedFrame (len :: kind :: tag :: (body ++ [c1, c2])) = .discarded := by
  have fits : ¬ 240 < body.length := by omega
  simp [receivedFrame, ← hl, fits, check]

end

/-- Settles O8: the receiver's cases while hunting and inside a frame, by what its bytes come to. -/
theorem receiverTakesBytes : Obligations.ReceiverTakesBytes := by
  intro p b err s hp
  simp only [exec_requestByteReceived hp, exec_interByteTimeout hp, ← State.discard_setReceiver]
  refine ⟨fun hunting => ⟨fun sync noError => ?_, fun other => ?_, ?_⟩, fun got inFrame => ⟨?_, fun error => ?_,
    fun noError first tooLong => ?_, fun noError first fits => ?_, fun len more started fits noError =>
      ⟨fun few => ?_, fun kind tag body c1 last hl => ⟨fun wrong => ?_, fun correct => ?_⟩⟩⟩⟩
  · subst sync noError
    exact congrArg _ (State.receiveByte_sync hunting)
  · rw [State.receiveByte_hunting hunting other]
  · rw [State.gap_hunting hunting]
  · rw [State.gap_inFrame inFrame]
  · rw [error, State.receiveByte_error inFrame]
  · subst first
    rw [noError, State.receiveByte_discarded inFrame (receivedFrame_tooLong tooLong [])]
  · subst first
    rw [noError, State.receiveByte_wanted inFrame (receivedFrame_wanted fits (by simp))]
    rfl
  · subst started
    rw [noError, State.receiveByte_wanted inFrame (receivedFrame_wanted fits (by simpa using few))]
    rfl
  · subst started last
    rw [noError, State.receiveByte_discarded inFrame (by simpa using receivedFrame_badCheck fits hl wrong)]
  · subst started last
    rw [noError, State.receiveByte_complete inFrame (by simpa using receivedFrame_complete fits hl correct)]
    rfl

end Sys2Proof.Machine
end

section
/-! # The bytes of a frame on the wire (10.6, R162) -/

namespace Sys2Proof.Machine

variable {s : State} {p : Port}

/-- A receiver written twice holds the second. -/
theorem State.setReceiver_setReceiver (s : State) (p : Port) (x y : Receiver) :
    (s.setReceiver p x).setReceiver p y = s.setReceiver p y := by
  simp only [State.setReceiver, State.port_setPort, if_pos, State.setPort_setPort]

/-- A receiver written with what it holds changes nothing. -/
theorem State.setReceiver_self {x : Receiver} (h : (s.port p).receiver = x) : s.setReceiver p x = s := by
  subst h
  exact s.setPort_self p

theorem State.receiver_setReceiver (s : State) (p : Port) (x : Receiver) :
    ((s.setReceiver p x).port p).receiver = x := by
  simp [State.setReceiver, State.port_setPort]

/-- The command of a byte received without a framing error. -/
abbrev receives (p : Port) (b : Byte) : Instr := .requestByteReceived p b false

/-- One byte received, then others. -/
theorem State.runAll_receives (hp : s.mainPower = true) (b : Byte) (bs : List Byte) :
    s.runAll ((b :: bs).map (receives p)) = (s.receiveByte p b false).runAll (bs.map (receives p)) := by
  simp only [List.map_cons, State.runAll, exec_requestByteReceived hp]

/-- Before its last check byte every part of a frame wants more. -/
theorem receivedFrame_of_append {len : Byte} (h : len.toNat ≤ 240) {rest : List Byte}
    (short : rest.length < len.toNat + 4) {got later : List Byte} (all : got ++ later = len :: rest) :
    receivedFrame got = .wanted := by
  cases got with
  | nil => rfl
  | cons x xs =>
    simp only [List.cons_append, List.cons.injEq] at all
    obtain ⟨rfl, rfl⟩ := all
    rw [List.length_append] at short
    exact receivedFrame_wanted h (by omega)

/-- The bytes of a frame up to some before its last check byte are kept one after another. -/
theorem State.runAll_partial {len : Byte} (h : len.toNat ≤ 240) {rest : List Byte}
    (short : rest.length < len.toNat + 4) (later bs : List Byte) {got : List Byte} (hp : s.mainPower = true)
    (inFrame : (s.port p).receiver = .inFrame got) (all : got ++ bs = len :: rest) :
    s.runAll ((bs ++ later).map (receives p))
      = (s.setReceiver p (.inFrame (len :: rest))).runAll (later.map (receives p)) := by
  induction bs generalizing s got with
  | nil =>
    rw [List.append_nil] at all
    rw [State.setReceiver_self (inFrame.trans (congrArg _ all)), List.nil_append]
  | cons b bs ih =>
    have all' : (got ++ [b]) ++ bs = len :: rest := by simpa using all
    have wanted := receivedFrame_of_append h short all'
    rw [List.cons_append, State.runAll_receives hp, State.receiveByte_wanted inFrame wanted,
      ih (s := s.setReceiver p _) hp (s.receiver_setReceiver p _) all', State.setReceiver_setReceiver]

/-- A hunting receiver that gets the bytes of a frame puts the frame through the port's taking order. -/
theorem State.runAll_wire (hp : s.mainPower = true) (hunting : (s.port p).receiver = .hunting) {f : Frame}
    (hl : f.body.length ≤ 240) : s.runAll (f.wire.map (receives p)) = some (s.frameCompletes p f) := by
  obtain ⟨kind, tag, body⟩ := f
  have length : (BitVec.ofNat 8 body.length).toNat = body.length := toNat_ofNat_byte (by simp only at hl; omega)
  generalize hlen : BitVec.ofNat 8 body.length = len at length
  obtain ⟨c1, c2, check⟩ : ∃ c1 c2, byte2 (crc16 (len :: kind :: tag :: body)).toNat = [c1, c2] := ⟨_, _, rfl⟩
  have bytes : Frame.wire ⟨kind, tag, body⟩ = requestSync :: ((len :: kind :: tag :: (body ++ [c1])) ++ [c2]) := by
    have inner : Frame.inner ⟨kind, tag, body⟩ = len :: kind :: tag :: body := by simp [Frame.inner, byte1, hlen]
    rw [Frame.wire, inner, check]
    simp
  have fits : len.toNat ≤ 240 := by rw [length]; exact hl
  have last := receivedFrame_complete fits length.symm check
  rw [bytes, State.runAll_receives hp, State.receiveByte_sync hunting,
    State.runAll_partial fits (by simp [length]) [c2] _ (s := s.setReceiver p (.inFrame [])) hp
      (s.receiver_setReceiver p _) rfl,
    State.setReceiver_setReceiver, State.runAll_receives (s := s.setReceiver p _) hp,
    State.receiveByte_complete (s.receiver_setReceiver p _) (by simpa using last), State.setReceiver_setReceiver,
    State.setReceiver_self hunting]
  rfl

/-- Settles O9: both come to the frame put through the port's taking order (`State.runAll_wire`). -/
theorem wireFrameIsTheRequest : Obligations.WireFrameIsTheRequest := by
  intro k p tag body s hp hl hunting
  exact ⟨_, (exec_requestOf ..).trans (congrArg _ (s.request_eq k p tag body hp)), State.runAll_wire hp hunting hl⟩

end Sys2Proof.Machine
end

section
/-! # One step: the front of the queue (log entry 1) -/

namespace Sys2Proof.Machine

/-- On an empty queue the part idles. -/
theorem step_of_pending_nil {s : State} (h : s.pending = []) : step s = .next s := by
  simp only [step, h]

/-- The command at the front is taken off the queue and run. -/
theorem step_of_pending_cons {s : State} {i : Instr} {rest : List Instr} (h : s.pending = i :: rest) :
    step s = exec i { s with pending := rest } := by
  simp only [step, h]

/-- Settles O1: the two cases of the queue. -/
theorem stepRunsFrontCommand : Obligations.StepRunsFrontCommand :=
  ⟨fun _ _ _ => step_of_pending_cons rfl, fun _ => step_of_pending_nil⟩

end Sys2Proof.Machine
end
